-- ==== Sys2Proof/Word.lean ====
section
/-! DEFINITION. The word types of the block (R6, R9): bytes, 16-bit words and 2-bit pixels. -/

namespace Sys2Proof

/-- An 8-bit value, `u8` of R9: arithmetic wraps modulo 2^8. -/
abbrev Byte := BitVec 8

/-- A 16-bit value, `u16` of R9: arithmetic wraps modulo 2^16. -/
abbrev Word := BitVec 16

/-- A 2-bit colour index, 0..3 (R40). -/
abbrev Pixel := BitVec 2

end Sys2Proof
end

