-- ==== Sys2Proof/Syntax.lean ====
section
/-! DEFINITION. The instructions: one constructor for each row of spec/opcode_table.json, in the table's order (R110),
the operand fields of R92–R101, and for each field pattern of R102 and R105 the instruction its fields name. -/

namespace Sys2Proof

/-- The 8-bit registers the field r names (R92); its code 6, (HL), is not a register. -/
inductive Reg8 where
  | b | c | d | e | h | l | a
deriving DecidableEq, Repr

/-- The pairs the field dd names (R93). -/
inductive Pair where
  | bc | de | hl | sp
deriving DecidableEq, Repr

/-- The pairs the field qq names (R94). -/
inductive StackPair where
  | bc | de | hl | af
deriving DecidableEq, Repr

/-- The conditions the field cc names (R95). -/
inductive Cond where
  | nz | z
deriving DecidableEq, Repr

/-- The operations the ALU field names (R101). -/
inductive AluOp where
  | add | adc | sub | sbc | and | xor | or | cp
deriving DecidableEq, Repr

/-- The two opcode spaces (R102, R105). -/
inductive Space where
  | primary | extended
deriving DecidableEq, Repr

/-- An instruction: a row of the opcode table with its immediate. -/
inductive Instr where
  | nop -- NOP
  | ldBcN16 (n16 : Word) -- LD BC,n16
  | ldAtBcA -- LD (BC),A
  | incBc -- INC BC
  | incB -- INC B
  | decB -- DEC B
  | ldBN8 (n8 : Byte) -- LD B,n8
  | addHlBc -- ADD HL,BC
  | ldAAtBc -- LD A,(BC)
  | decBc -- DEC BC
  | incC -- INC C
  | decC -- DEC C
  | ldCN8 (n8 : Byte) -- LD C,n8
  | ldDeN16 (n16 : Word) -- LD DE,n16
  | ldAtDeA -- LD (DE),A
  | incDe -- INC DE
  | incD -- INC D
  | decD -- DEC D
  | ldDN8 (n8 : Byte) -- LD D,n8
  | jrE8 (e8 : Byte) -- JR e8
  | addHlDe -- ADD HL,DE
  | ldAAtDe -- LD A,(DE)
  | decDe -- DEC DE
  | incE -- INC E
  | decE -- DEC E
  | ldEN8 (n8 : Byte) -- LD E,n8
  | jrNzE8 (e8 : Byte) -- JR NZ,e8
  | ldHlN16 (n16 : Word) -- LD HL,n16
  | ldAtHliA -- LD (HL+),A
  | incHl -- INC HL
  | incH -- INC H
  | decH -- DEC H
  | ldHN8 (n8 : Byte) -- LD H,n8
  | jrZE8 (e8 : Byte) -- JR Z,e8
  | addHlHl -- ADD HL,HL
  | ldAAtHli -- LD A,(HL+)
  | decHl -- DEC HL
  | incL -- INC L
  | decL -- DEC L
  | ldLN8 (n8 : Byte) -- LD L,n8
  | ldSpN16 (n16 : Word) -- LD SP,n16
  | ldAtHldA -- LD (HL-),A
  | incSp -- INC SP
  | incAtHl -- INC (HL)
  | decAtHl -- DEC (HL)
  | ldAtHlN8 (n8 : Byte) -- LD (HL),n8
  | addHlSp -- ADD HL,SP
  | ldAAtHld -- LD A,(HL-)
  | decSp -- DEC SP
  | incA -- INC A
  | decA -- DEC A
  | ldAN8 (n8 : Byte) -- LD A,n8
  | ldBB -- LD B,B
  | ldBC -- LD B,C
  | ldBD -- LD B,D
  | ldBE -- LD B,E
  | ldBH -- LD B,H
  | ldBL -- LD B,L
  | ldBAtHl -- LD B,(HL)
  | ldBA -- LD B,A
  | ldCB -- LD C,B
  | ldCC -- LD C,C
  | ldCD -- LD C,D
  | ldCE -- LD C,E
  | ldCH -- LD C,H
  | ldCL -- LD C,L
  | ldCAtHl -- LD C,(HL)
  | ldCA -- LD C,A
  | ldDB -- LD D,B
  | ldDC -- LD D,C
  | ldDD -- LD D,D
  | ldDE -- LD D,E
  | ldDH -- LD D,H
  | ldDL -- LD D,L
  | ldDAtHl -- LD D,(HL)
  | ldDA -- LD D,A
  | ldEB -- LD E,B
  | ldEC -- LD E,C
  | ldED -- LD E,D
  | ldEE -- LD E,E
  | ldEH -- LD E,H
  | ldEL -- LD E,L
  | ldEAtHl -- LD E,(HL)
  | ldEA -- LD E,A
  | ldHB -- LD H,B
  | ldHC -- LD H,C
  | ldHD -- LD H,D
  | ldHE -- LD H,E
  | ldHH -- LD H,H
  | ldHL -- LD H,L
  | ldHAtHl -- LD H,(HL)
  | ldHA -- LD H,A
  | ldLB -- LD L,B
  | ldLC -- LD L,C
  | ldLD -- LD L,D
  | ldLE -- LD L,E
  | ldLH -- LD L,H
  | ldLL -- LD L,L
  | ldLAtHl -- LD L,(HL)
  | ldLA -- LD L,A
  | ldAtHlB -- LD (HL),B
  | ldAtHlC -- LD (HL),C
  | ldAtHlD -- LD (HL),D
  | ldAtHlE -- LD (HL),E
  | ldAtHlH -- LD (HL),H
  | ldAtHlL -- LD (HL),L
  | halt -- HALT
  | ldAtHlA -- LD (HL),A
  | ldAB -- LD A,B
  | ldAC -- LD A,C
  | ldAD -- LD A,D
  | ldAE -- LD A,E
  | ldAH -- LD A,H
  | ldAL -- LD A,L
  | ldAAtHl -- LD A,(HL)
  | ldAA -- LD A,A
  | addAB -- ADD A,B
  | addAC -- ADD A,C
  | addAD -- ADD A,D
  | addAE -- ADD A,E
  | addAH -- ADD A,H
  | addAL -- ADD A,L
  | addAAtHl -- ADD A,(HL)
  | addAA -- ADD A,A
  | adcAB -- ADC A,B
  | adcAC -- ADC A,C
  | adcAD -- ADC A,D
  | adcAE -- ADC A,E
  | adcAH -- ADC A,H
  | adcAL -- ADC A,L
  | adcAAtHl -- ADC A,(HL)
  | adcAA -- ADC A,A
  | subB -- SUB B
  | subC -- SUB C
  | subD -- SUB D
  | subE -- SUB E
  | subH -- SUB H
  | subL -- SUB L
  | subAtHl -- SUB (HL)
  | subA -- SUB A
  | sbcAB -- SBC A,B
  | sbcAC -- SBC A,C
  | sbcAD -- SBC A,D
  | sbcAE -- SBC A,E
  | sbcAH -- SBC A,H
  | sbcAL -- SBC A,L
  | sbcAAtHl -- SBC A,(HL)
  | sbcAA -- SBC A,A
  | andB -- AND B
  | andC -- AND C
  | andD -- AND D
  | andE -- AND E
  | andH -- AND H
  | andL -- AND L
  | andAtHl -- AND (HL)
  | andA -- AND A
  | xorB -- XOR B
  | xorC -- XOR C
  | xorD -- XOR D
  | xorE -- XOR E
  | xorH -- XOR H
  | xorL -- XOR L
  | xorAtHl -- XOR (HL)
  | xorA -- XOR A
  | orB -- OR B
  | orC -- OR C
  | orD -- OR D
  | orE -- OR E
  | orH -- OR H
  | orL -- OR L
  | orAtHl -- OR (HL)
  | orA -- OR A
  | cpB -- CP B
  | cpC -- CP C
  | cpD -- CP D
  | cpE -- CP E
  | cpH -- CP H
  | cpL -- CP L
  | cpAtHl -- CP (HL)
  | cpA -- CP A
  | popBc -- POP BC
  | jpNzN16 (n16 : Word) -- JP NZ,n16
  | jpN16 (n16 : Word) -- JP n16
  | pushBc -- PUSH BC
  | addAN8 (n8 : Byte) -- ADD A,n8
  | rst00 -- RST 0x00
  | ret -- RET
  | jpZN16 (n16 : Word) -- JP Z,n16
  | callN16 (n16 : Word) -- CALL n16
  | adcAN8 (n8 : Byte) -- ADC A,n8
  | rst08 -- RST 0x08
  | popDe -- POP DE
  | pushDe -- PUSH DE
  | subN8 (n8 : Byte) -- SUB n8
  | rst10 -- RST 0x10
  | reti -- RETI
  | sbcAN8 (n8 : Byte) -- SBC A,n8
  | rst18 -- RST 0x18
  | ldhAtN8A (n8 : Byte) -- LDH (n8),A
  | popHl -- POP HL
  | ldAtCA -- LD (C),A
  | pushHl -- PUSH HL
  | andN8 (n8 : Byte) -- AND n8
  | rst20 -- RST 0x20
  | ldAtN16A (n16 : Word) -- LD (n16),A
  | xorN8 (n8 : Byte) -- XOR n8
  | rst28 -- RST 0x28
  | ldhAAtN8 (n8 : Byte) -- LDH A,(n8)
  | popAf -- POP AF
  | ldAAtC -- LD A,(C)
  | di -- DI
  | pushAf -- PUSH AF
  | orN8 (n8 : Byte) -- OR n8
  | rst30 -- RST 0x30
  | ldAAtN16 (n16 : Word) -- LD A,(n16)
  | ei -- EI
  | cpN8 (n8 : Byte) -- CP n8
  | rst38 -- RST 0x38
  | rlB -- RL B
  | rlC -- RL C
  | rlD -- RL D
  | rlE -- RL E
  | rlH -- RL H
  | rlL -- RL L
  | rlAtHl -- RL (HL)
  | rlA -- RL A
  | swapB -- SWAP B
  | swapC -- SWAP C
  | swapD -- SWAP D
  | swapE -- SWAP E
  | swapH -- SWAP H
  | swapL -- SWAP L
  | swapAtHl -- SWAP (HL)
  | swapA -- SWAP A
  | bit0B -- BIT 0,B
  | bit0C -- BIT 0,C
  | bit0D -- BIT 0,D
  | bit0E -- BIT 0,E
  | bit0H -- BIT 0,H
  | bit0L -- BIT 0,L
  | bit0AtHl -- BIT 0,(HL)
  | bit0A -- BIT 0,A
  | bit1B -- BIT 1,B
  | bit1C -- BIT 1,C
  | bit1D -- BIT 1,D
  | bit1E -- BIT 1,E
  | bit1H -- BIT 1,H
  | bit1L -- BIT 1,L
  | bit1AtHl -- BIT 1,(HL)
  | bit1A -- BIT 1,A
  | bit2B -- BIT 2,B
  | bit2C -- BIT 2,C
  | bit2D -- BIT 2,D
  | bit2E -- BIT 2,E
  | bit2H -- BIT 2,H
  | bit2L -- BIT 2,L
  | bit2AtHl -- BIT 2,(HL)
  | bit2A -- BIT 2,A
  | bit3B -- BIT 3,B
  | bit3C -- BIT 3,C
  | bit3D -- BIT 3,D
  | bit3E -- BIT 3,E
  | bit3H -- BIT 3,H
  | bit3L -- BIT 3,L
  | bit3AtHl -- BIT 3,(HL)
  | bit3A -- BIT 3,A
  | bit4B -- BIT 4,B
  | bit4C -- BIT 4,C
  | bit4D -- BIT 4,D
  | bit4E -- BIT 4,E
  | bit4H -- BIT 4,H
  | bit4L -- BIT 4,L
  | bit4AtHl -- BIT 4,(HL)
  | bit4A -- BIT 4,A
  | bit5B -- BIT 5,B
  | bit5C -- BIT 5,C
  | bit5D -- BIT 5,D
  | bit5E -- BIT 5,E
  | bit5H -- BIT 5,H
  | bit5L -- BIT 5,L
  | bit5AtHl -- BIT 5,(HL)
  | bit5A -- BIT 5,A
  | bit6B -- BIT 6,B
  | bit6C -- BIT 6,C
  | bit6D -- BIT 6,D
  | bit6E -- BIT 6,E
  | bit6H -- BIT 6,H
  | bit6L -- BIT 6,L
  | bit6AtHl -- BIT 6,(HL)
  | bit6A -- BIT 6,A
  | bit7B -- BIT 7,B
  | bit7C -- BIT 7,C
  | bit7D -- BIT 7,D
  | bit7E -- BIT 7,E
  | bit7H -- BIT 7,H
  | bit7L -- BIT 7,L
  | bit7AtHl -- BIT 7,(HL)
  | bit7A -- BIT 7,A
  | res0B -- RES 0,B
  | res0C -- RES 0,C
  | res0D -- RES 0,D
  | res0E -- RES 0,E
  | res0H -- RES 0,H
  | res0L -- RES 0,L
  | res0AtHl -- RES 0,(HL)
  | res0A -- RES 0,A
  | res1B -- RES 1,B
  | res1C -- RES 1,C
  | res1D -- RES 1,D
  | res1E -- RES 1,E
  | res1H -- RES 1,H
  | res1L -- RES 1,L
  | res1AtHl -- RES 1,(HL)
  | res1A -- RES 1,A
  | res2B -- RES 2,B
  | res2C -- RES 2,C
  | res2D -- RES 2,D
  | res2E -- RES 2,E
  | res2H -- RES 2,H
  | res2L -- RES 2,L
  | res2AtHl -- RES 2,(HL)
  | res2A -- RES 2,A
  | res3B -- RES 3,B
  | res3C -- RES 3,C
  | res3D -- RES 3,D
  | res3E -- RES 3,E
  | res3H -- RES 3,H
  | res3L -- RES 3,L
  | res3AtHl -- RES 3,(HL)
  | res3A -- RES 3,A
  | res4B -- RES 4,B
  | res4C -- RES 4,C
  | res4D -- RES 4,D
  | res4E -- RES 4,E
  | res4H -- RES 4,H
  | res4L -- RES 4,L
  | res4AtHl -- RES 4,(HL)
  | res4A -- RES 4,A
  | res5B -- RES 5,B
  | res5C -- RES 5,C
  | res5D -- RES 5,D
  | res5E -- RES 5,E
  | res5H -- RES 5,H
  | res5L -- RES 5,L
  | res5AtHl -- RES 5,(HL)
  | res5A -- RES 5,A
  | res6B -- RES 6,B
  | res6C -- RES 6,C
  | res6D -- RES 6,D
  | res6E -- RES 6,E
  | res6H -- RES 6,H
  | res6L -- RES 6,L
  | res6AtHl -- RES 6,(HL)
  | res6A -- RES 6,A
  | res7B -- RES 7,B
  | res7C -- RES 7,C
  | res7D -- RES 7,D
  | res7E -- RES 7,E
  | res7H -- RES 7,H
  | res7L -- RES 7,L
  | res7AtHl -- RES 7,(HL)
  | res7A -- RES 7,A
deriving DecidableEq, Repr

/-- LD d,s, `01dddsss` (R150). -/
def Instr.ldReg : Reg8 → Reg8 → Instr
  | .b, .b => .ldBB
  | .b, .c => .ldBC
  | .b, .d => .ldBD
  | .b, .e => .ldBE
  | .b, .h => .ldBH
  | .b, .l => .ldBL
  | .b, .a => .ldBA
  | .c, .b => .ldCB
  | .c, .c => .ldCC
  | .c, .d => .ldCD
  | .c, .e => .ldCE
  | .c, .h => .ldCH
  | .c, .l => .ldCL
  | .c, .a => .ldCA
  | .d, .b => .ldDB
  | .d, .c => .ldDC
  | .d, .d => .ldDD
  | .d, .e => .ldDE
  | .d, .h => .ldDH
  | .d, .l => .ldDL
  | .d, .a => .ldDA
  | .e, .b => .ldEB
  | .e, .c => .ldEC
  | .e, .d => .ldED
  | .e, .e => .ldEE
  | .e, .h => .ldEH
  | .e, .l => .ldEL
  | .e, .a => .ldEA
  | .h, .b => .ldHB
  | .h, .c => .ldHC
  | .h, .d => .ldHD
  | .h, .e => .ldHE
  | .h, .h => .ldHH
  | .h, .l => .ldHL
  | .h, .a => .ldHA
  | .l, .b => .ldLB
  | .l, .c => .ldLC
  | .l, .d => .ldLD
  | .l, .e => .ldLE
  | .l, .h => .ldLH
  | .l, .l => .ldLL
  | .l, .a => .ldLA
  | .a, .b => .ldAB
  | .a, .c => .ldAC
  | .a, .d => .ldAD
  | .a, .e => .ldAE
  | .a, .h => .ldAH
  | .a, .l => .ldAL
  | .a, .a => .ldAA

/-- LD d,(HL), `01ddd110` (R151). -/
def Instr.ldRegMem : Reg8 → Instr
  | .b => .ldBAtHl
  | .c => .ldCAtHl
  | .d => .ldDAtHl
  | .e => .ldEAtHl
  | .h => .ldHAtHl
  | .l => .ldLAtHl
  | .a => .ldAAtHl

/-- LD (HL),s, `01110sss` (R152). -/
def Instr.ldMemReg : Reg8 → Instr
  | .b => .ldAtHlB
  | .c => .ldAtHlC
  | .d => .ldAtHlD
  | .e => .ldAtHlE
  | .h => .ldAtHlH
  | .l => .ldAtHlL
  | .a => .ldAtHlA

/-- LD r,n8, `00rrr110` (R153). -/
def Instr.ldRegN8 : Reg8 → Byte → Instr
  | .b, n8 => .ldBN8 n8
  | .c, n8 => .ldCN8 n8
  | .d, n8 => .ldDN8 n8
  | .e, n8 => .ldEN8 n8
  | .h, n8 => .ldHN8 n8
  | .l, n8 => .ldLN8 n8
  | .a, n8 => .ldAN8 n8

/-- The 8-bit ALU operation with a register operand, `10ooosss` (R200). -/
def Instr.aluReg : AluOp → Reg8 → Instr
  | .add, .b => .addAB
  | .add, .c => .addAC
  | .add, .d => .addAD
  | .add, .e => .addAE
  | .add, .h => .addAH
  | .add, .l => .addAL
  | .add, .a => .addAA
  | .adc, .b => .adcAB
  | .adc, .c => .adcAC
  | .adc, .d => .adcAD
  | .adc, .e => .adcAE
  | .adc, .h => .adcAH
  | .adc, .l => .adcAL
  | .adc, .a => .adcAA
  | .sub, .b => .subB
  | .sub, .c => .subC
  | .sub, .d => .subD
  | .sub, .e => .subE
  | .sub, .h => .subH
  | .sub, .l => .subL
  | .sub, .a => .subA
  | .sbc, .b => .sbcAB
  | .sbc, .c => .sbcAC
  | .sbc, .d => .sbcAD
  | .sbc, .e => .sbcAE
  | .sbc, .h => .sbcAH
  | .sbc, .l => .sbcAL
  | .sbc, .a => .sbcAA
  | .and, .b => .andB
  | .and, .c => .andC
  | .and, .d => .andD
  | .and, .e => .andE
  | .and, .h => .andH
  | .and, .l => .andL
  | .and, .a => .andA
  | .xor, .b => .xorB
  | .xor, .c => .xorC
  | .xor, .d => .xorD
  | .xor, .e => .xorE
  | .xor, .h => .xorH
  | .xor, .l => .xorL
  | .xor, .a => .xorA
  | .or, .b => .orB
  | .or, .c => .orC
  | .or, .d => .orD
  | .or, .e => .orE
  | .or, .h => .orH
  | .or, .l => .orL
  | .or, .a => .orA
  | .cp, .b => .cpB
  | .cp, .c => .cpC
  | .cp, .d => .cpD
  | .cp, .e => .cpE
  | .cp, .h => .cpH
  | .cp, .l => .cpL
  | .cp, .a => .cpA

/-- The 8-bit ALU operation with the operand (HL), `10ooo110` (R200). -/
def Instr.aluMem : AluOp → Instr
  | .add => .addAAtHl
  | .adc => .adcAAtHl
  | .sub => .subAtHl
  | .sbc => .sbcAAtHl
  | .and => .andAtHl
  | .xor => .xorAtHl
  | .or => .orAtHl
  | .cp => .cpAtHl

/-- The 8-bit ALU operation with the operand n8, `11ooo110` (R200). -/
def Instr.aluN8 : AluOp → Byte → Instr
  | .add, n8 => .addAN8 n8
  | .adc, n8 => .adcAN8 n8
  | .sub, n8 => .subN8 n8
  | .sbc, n8 => .sbcAN8 n8
  | .and, n8 => .andN8 n8
  | .xor, n8 => .xorN8 n8
  | .or, n8 => .orN8 n8
  | .cp, n8 => .cpN8 n8

/-- INC r, `00rrr100` (R236). -/
def Instr.incReg : Reg8 → Instr
  | .b => .incB
  | .c => .incC
  | .d => .incD
  | .e => .incE
  | .h => .incH
  | .l => .incL
  | .a => .incA

/-- DEC r, `00rrr101` (R238). -/
def Instr.decReg : Reg8 → Instr
  | .b => .decB
  | .c => .decC
  | .d => .decD
  | .e => .decE
  | .h => .decH
  | .l => .decL
  | .a => .decA

/-- LD dd,n16, `00dd0001` (R169). -/
def Instr.ldPairN16 : Pair → Word → Instr
  | .bc, n16 => .ldBcN16 n16
  | .de, n16 => .ldDeN16 n16
  | .hl, n16 => .ldHlN16 n16
  | .sp, n16 => .ldSpN16 n16

/-- INC dd, `00dd0011` (R250). -/
def Instr.incPair : Pair → Instr
  | .bc => .incBc
  | .de => .incDe
  | .hl => .incHl
  | .sp => .incSp

/-- DEC dd, `00dd1011` (R251). -/
def Instr.decPair : Pair → Instr
  | .bc => .decBc
  | .de => .decDe
  | .hl => .decHl
  | .sp => .decSp

/-- ADD HL,dd, `00dd1001` (R252). -/
def Instr.addHlPair : Pair → Instr
  | .bc => .addHlBc
  | .de => .addHlDe
  | .hl => .addHlHl
  | .sp => .addHlSp

/-- JR cc,e8, `001cc000` (R272). -/
def Instr.jrCc : Cond → Byte → Instr
  | .nz, e8 => .jrNzE8 e8
  | .z, e8 => .jrZE8 e8

/-- JP cc,n16, `110cc010` (R274). -/
def Instr.jpCc : Cond → Word → Instr
  | .nz, n16 => .jpNzN16 n16
  | .z, n16 => .jpZN16 n16

/-- PUSH qq, `11qq0101` (R302, R303). -/
def Instr.push : StackPair → Instr
  | .bc => .pushBc
  | .de => .pushDe
  | .hl => .pushHl
  | .af => .pushAf

/-- POP qq, `11qq0001` (R304, R305). -/
def Instr.pop : StackPair → Instr
  | .bc => .popBc
  | .de => .popDe
  | .hl => .popHl
  | .af => .popAf

/-- RST t·8, `11ttt111` (R278). -/
def Instr.rst : Fin 8 → Instr
  | 0 => .rst00
  | 1 => .rst08
  | 2 => .rst10
  | 3 => .rst18
  | 4 => .rst20
  | 5 => .rst28
  | 6 => .rst30
  | 7 => .rst38

/-- RL r, `00010rrr` (R341). -/
def Instr.rlReg : Reg8 → Instr
  | .b => .rlB
  | .c => .rlC
  | .d => .rlD
  | .e => .rlE
  | .h => .rlH
  | .l => .rlL
  | .a => .rlA

/-- SWAP r, `00110rrr` (R343). -/
def Instr.swapReg : Reg8 → Instr
  | .b => .swapB
  | .c => .swapC
  | .d => .swapD
  | .e => .swapE
  | .h => .swapH
  | .l => .swapL
  | .a => .swapA

/-- BIT b,r, `01bbbrrr` (R345). -/
def Instr.bitReg : Fin 8 → Reg8 → Instr
  | 0, .b => .bit0B
  | 0, .c => .bit0C
  | 0, .d => .bit0D
  | 0, .e => .bit0E
  | 0, .h => .bit0H
  | 0, .l => .bit0L
  | 0, .a => .bit0A
  | 1, .b => .bit1B
  | 1, .c => .bit1C
  | 1, .d => .bit1D
  | 1, .e => .bit1E
  | 1, .h => .bit1H
  | 1, .l => .bit1L
  | 1, .a => .bit1A
  | 2, .b => .bit2B
  | 2, .c => .bit2C
  | 2, .d => .bit2D
  | 2, .e => .bit2E
  | 2, .h => .bit2H
  | 2, .l => .bit2L
  | 2, .a => .bit2A
  | 3, .b => .bit3B
  | 3, .c => .bit3C
  | 3, .d => .bit3D
  | 3, .e => .bit3E
  | 3, .h => .bit3H
  | 3, .l => .bit3L
  | 3, .a => .bit3A
  | 4, .b => .bit4B
  | 4, .c => .bit4C
  | 4, .d => .bit4D
  | 4, .e => .bit4E
  | 4, .h => .bit4H
  | 4, .l => .bit4L
  | 4, .a => .bit4A
  | 5, .b => .bit5B
  | 5, .c => .bit5C
  | 5, .d => .bit5D
  | 5, .e => .bit5E
  | 5, .h => .bit5H
  | 5, .l => .bit5L
  | 5, .a => .bit5A
  | 6, .b => .bit6B
  | 6, .c => .bit6C
  | 6, .d => .bit6D
  | 6, .e => .bit6E
  | 6, .h => .bit6H
  | 6, .l => .bit6L
  | 6, .a => .bit6A
  | 7, .b => .bit7B
  | 7, .c => .bit7C
  | 7, .d => .bit7D
  | 7, .e => .bit7E
  | 7, .h => .bit7H
  | 7, .l => .bit7L
  | 7, .a => .bit7A

/-- BIT b,(HL), `01bbb110` (R346). -/
def Instr.bitMem : Fin 8 → Instr
  | 0 => .bit0AtHl
  | 1 => .bit1AtHl
  | 2 => .bit2AtHl
  | 3 => .bit3AtHl
  | 4 => .bit4AtHl
  | 5 => .bit5AtHl
  | 6 => .bit6AtHl
  | 7 => .bit7AtHl

/-- RES b,r, `10bbbrrr` (R347). -/
def Instr.resReg : Fin 8 → Reg8 → Instr
  | 0, .b => .res0B
  | 0, .c => .res0C
  | 0, .d => .res0D
  | 0, .e => .res0E
  | 0, .h => .res0H
  | 0, .l => .res0L
  | 0, .a => .res0A
  | 1, .b => .res1B
  | 1, .c => .res1C
  | 1, .d => .res1D
  | 1, .e => .res1E
  | 1, .h => .res1H
  | 1, .l => .res1L
  | 1, .a => .res1A
  | 2, .b => .res2B
  | 2, .c => .res2C
  | 2, .d => .res2D
  | 2, .e => .res2E
  | 2, .h => .res2H
  | 2, .l => .res2L
  | 2, .a => .res2A
  | 3, .b => .res3B
  | 3, .c => .res3C
  | 3, .d => .res3D
  | 3, .e => .res3E
  | 3, .h => .res3H
  | 3, .l => .res3L
  | 3, .a => .res3A
  | 4, .b => .res4B
  | 4, .c => .res4C
  | 4, .d => .res4D
  | 4, .e => .res4E
  | 4, .h => .res4H
  | 4, .l => .res4L
  | 4, .a => .res4A
  | 5, .b => .res5B
  | 5, .c => .res5C
  | 5, .d => .res5D
  | 5, .e => .res5E
  | 5, .h => .res5H
  | 5, .l => .res5L
  | 5, .a => .res5A
  | 6, .b => .res6B
  | 6, .c => .res6C
  | 6, .d => .res6D
  | 6, .e => .res6E
  | 6, .h => .res6H
  | 6, .l => .res6L
  | 6, .a => .res6A
  | 7, .b => .res7B
  | 7, .c => .res7C
  | 7, .d => .res7D
  | 7, .e => .res7E
  | 7, .h => .res7H
  | 7, .l => .res7L
  | 7, .a => .res7A

/-- RES b,(HL), `10bbb110` (R348). -/
def Instr.resMem : Fin 8 → Instr
  | 0 => .res0AtHl
  | 1 => .res1AtHl
  | 2 => .res2AtHl
  | 3 => .res3AtHl
  | 4 => .res4AtHl
  | 5 => .res5AtHl
  | 6 => .res6AtHl
  | 7 => .res7AtHl

end Sys2Proof
end

