-- ==== Sys2Proof/WellFormed.lean ====
section
/-! DEFINITION. Well-formedness of an instruction. Every field of an instruction has the type of its encoding field, so
no operand value can be out of range; what R104 still asks is that an INFERRED instruction is admitted. -/

namespace Sys2Proof

/-- The 38 instructions whose row of opcode_table.json has the basis INFERRED (R104). -/
def Instr.inferred : Instr → Bool
  | .nop | .incAtHl | .decAtHl | .ldAtHlN8 _ | .addAAtHl | .adcAAtHl | .subAtHl | .sbcAAtHl
  | .andAtHl | .xorAtHl | .orAtHl | .cpAtHl | .addAN8 _ | .adcAN8 _ | .subN8 _ | .sbcAN8 _
  | .andN8 _ | .xorN8 _ | .orN8 _ | .cpN8 _ | .rlAtHl | .swapAtHl | .bit0AtHl | .bit1AtHl
  | .bit2AtHl | .bit3AtHl | .bit4AtHl | .bit5AtHl | .bit6AtHl | .bit7AtHl | .res0AtHl | .res1AtHl
  | .res2AtHl | .res3AtHl | .res4AtHl | .res5AtHl | .res6AtHl | .res7AtHl => true
  | .ldBcN16 _ | .ldAtBcA | .incBc | .incB | .decB | .ldBN8 _ | .addHlBc | .ldAAtBc
  | .decBc | .incC | .decC | .ldCN8 _ | .ldDeN16 _ | .ldAtDeA | .incDe | .incD
  | .decD | .ldDN8 _ | .jrE8 _ | .addHlDe | .ldAAtDe | .decDe | .incE | .decE
  | .ldEN8 _ | .jrNzE8 _ | .ldHlN16 _ | .ldAtHliA | .incHl | .incH | .decH | .ldHN8 _
  | .jrZE8 _ | .addHlHl | .ldAAtHli | .decHl | .incL | .decL | .ldLN8 _ | .ldSpN16 _
  | .ldAtHldA | .incSp | .addHlSp | .ldAAtHld | .decSp | .incA | .decA | .ldAN8 _
  | .ldBB | .ldBC | .ldBD | .ldBE | .ldBH | .ldBL | .ldBAtHl | .ldBA
  | .ldCB | .ldCC | .ldCD | .ldCE | .ldCH | .ldCL | .ldCAtHl | .ldCA
  | .ldDB | .ldDC | .ldDD | .ldDE | .ldDH | .ldDL | .ldDAtHl | .ldDA
  | .ldEB | .ldEC | .ldED | .ldEE | .ldEH | .ldEL | .ldEAtHl | .ldEA
  | .ldHB | .ldHC | .ldHD | .ldHE | .ldHH | .ldHL | .ldHAtHl | .ldHA
  | .ldLB | .ldLC | .ldLD | .ldLE | .ldLH | .ldLL | .ldLAtHl | .ldLA
  | .ldAtHlB | .ldAtHlC | .ldAtHlD | .ldAtHlE | .ldAtHlH | .ldAtHlL | .halt | .ldAtHlA
  | .ldAB | .ldAC | .ldAD | .ldAE | .ldAH | .ldAL | .ldAAtHl | .ldAA
  | .addAB | .addAC | .addAD | .addAE | .addAH | .addAL | .addAA | .adcAB
  | .adcAC | .adcAD | .adcAE | .adcAH | .adcAL | .adcAA | .subB | .subC
  | .subD | .subE | .subH | .subL | .subA | .sbcAB | .sbcAC | .sbcAD
  | .sbcAE | .sbcAH | .sbcAL | .sbcAA | .andB | .andC | .andD | .andE
  | .andH | .andL | .andA | .xorB | .xorC | .xorD | .xorE | .xorH
  | .xorL | .xorA | .orB | .orC | .orD | .orE | .orH | .orL
  | .orA | .cpB | .cpC | .cpD | .cpE | .cpH | .cpL | .cpA
  | .popBc | .jpNzN16 _ | .jpN16 _ | .pushBc | .rst00 | .ret | .jpZN16 _ | .callN16 _
  | .rst08 | .popDe | .pushDe | .rst10 | .reti | .rst18 | .ldhAtN8A _ | .popHl
  | .ldAtCA | .pushHl | .rst20 | .ldAtN16A _ | .rst28 | .ldhAAtN8 _ | .popAf | .ldAAtC
  | .di | .pushAf | .rst30 | .ldAAtN16 _ | .ei | .rst38 | .rlB | .rlC
  | .rlD | .rlE | .rlH | .rlL | .rlA | .swapB | .swapC | .swapD
  | .swapE | .swapH | .swapL | .swapA | .bit0B | .bit0C | .bit0D | .bit0E
  | .bit0H | .bit0L | .bit0A | .bit1B | .bit1C | .bit1D | .bit1E | .bit1H
  | .bit1L | .bit1A | .bit2B | .bit2C | .bit2D | .bit2E | .bit2H | .bit2L
  | .bit2A | .bit3B | .bit3C | .bit3D | .bit3E | .bit3H | .bit3L | .bit3A
  | .bit4B | .bit4C | .bit4D | .bit4E | .bit4H | .bit4L | .bit4A | .bit5B
  | .bit5C | .bit5D | .bit5E | .bit5H | .bit5L | .bit5A | .bit6B | .bit6C
  | .bit6D | .bit6E | .bit6H | .bit6L | .bit6A | .bit7B | .bit7C | .bit7D
  | .bit7E | .bit7H | .bit7L | .bit7A | .res0B | .res0C | .res0D | .res0E
  | .res0H | .res0L | .res0A | .res1B | .res1C | .res1D | .res1E | .res1H
  | .res1L | .res1A | .res2B | .res2C | .res2D | .res2E | .res2H | .res2L
  | .res2A | .res3B | .res3C | .res3D | .res3E | .res3H | .res3L | .res3A
  | .res4B | .res4C | .res4D | .res4E | .res4H | .res4L | .res4A | .res5B
  | .res5C | .res5D | .res5E | .res5H | .res5L | .res5A | .res6B | .res6C
  | .res6D | .res6E | .res6H | .res6L | .res6A | .res7B | .res7C | .res7D
  | .res7E | .res7H | .res7L | .res7A => false

/-- An instruction of the block with `ADMIT_INFERRED = admitted` (R104). -/
def Instr.wellFormed (admitted : Bool) (i : Instr) : Bool :=
  admitted || !i.inferred

end Sys2Proof
end

