-- ==== Sys2Proof/Decode.lean ====
section
/-! DEFINITION. The decoder and, after it, the encoder (R90–R110). The two maps are those of R102 and R105, one list of
16 cells for each row of the map; a cell marked `—` there is `illegal` here. -/

namespace Sys2Proof

/-- `hi ++ lo` of R9: the 16-bit value of two bytes. -/
def wordOf (hi lo : Byte) : Word := hi ++ lo

/-- `hi(w) = w[15:8]` (R9). -/
def hiByte (w : Word) : Byte := w.extractLsb' 8 8

/-- `lo(w) = w[7:0]` (R9). -/
def loByte (w : Word) : Byte := w.extractLsb' 0 8

/-- A cell of the primary map: the format of R90 and the instruction its immediate completes. -/
inductive Cell where
  | illegal
  | f1 (i : Instr)
  | f2 (i : Byte → Instr)
  | f3 (i : Byte → Instr)
  | f4 (i : Word → Instr)

/-- The primary map of R102, by the high nibble of the first byte; 0xCB is the escape to the extended map (R106). -/
def primaryRow : Nat → List Cell
  | 0x0 => [.f1 .nop, .f4 .ldBcN16, .f1 .ldAtBcA, .f1 .incBc, .f1 .incB, .f1 .decB, .f2 .ldBN8, .illegal,
      .illegal, .f1 .addHlBc, .f1 .ldAAtBc, .f1 .decBc, .f1 .incC, .f1 .decC, .f2 .ldCN8, .illegal]
  | 0x1 => [.illegal, .f4 .ldDeN16, .f1 .ldAtDeA, .f1 .incDe, .f1 .incD, .f1 .decD, .f2 .ldDN8, .illegal,
      .f3 .jrE8, .f1 .addHlDe, .f1 .ldAAtDe, .f1 .decDe, .f1 .incE, .f1 .decE, .f2 .ldEN8, .illegal]
  | 0x2 => [.f3 .jrNzE8, .f4 .ldHlN16, .f1 .ldAtHliA, .f1 .incHl, .f1 .incH, .f1 .decH, .f2 .ldHN8, .illegal,
      .f3 .jrZE8, .f1 .addHlHl, .f1 .ldAAtHli, .f1 .decHl, .f1 .incL, .f1 .decL, .f2 .ldLN8, .illegal]
  | 0x3 => [.illegal, .f4 .ldSpN16, .f1 .ldAtHldA, .f1 .incSp, .f1 .incAtHl, .f1 .decAtHl, .f2 .ldAtHlN8, .illegal,
      .illegal, .f1 .addHlSp, .f1 .ldAAtHld, .f1 .decSp, .f1 .incA, .f1 .decA, .f2 .ldAN8, .illegal]
  | 0x4 => [.f1 .ldBB, .f1 .ldBC, .f1 .ldBD, .f1 .ldBE, .f1 .ldBH, .f1 .ldBL, .f1 .ldBAtHl, .f1 .ldBA,
      .f1 .ldCB, .f1 .ldCC, .f1 .ldCD, .f1 .ldCE, .f1 .ldCH, .f1 .ldCL, .f1 .ldCAtHl, .f1 .ldCA]
  | 0x5 => [.f1 .ldDB, .f1 .ldDC, .f1 .ldDD, .f1 .ldDE, .f1 .ldDH, .f1 .ldDL, .f1 .ldDAtHl, .f1 .ldDA,
      .f1 .ldEB, .f1 .ldEC, .f1 .ldED, .f1 .ldEE, .f1 .ldEH, .f1 .ldEL, .f1 .ldEAtHl, .f1 .ldEA]
  | 0x6 => [.f1 .ldHB, .f1 .ldHC, .f1 .ldHD, .f1 .ldHE, .f1 .ldHH, .f1 .ldHL, .f1 .ldHAtHl, .f1 .ldHA,
      .f1 .ldLB, .f1 .ldLC, .f1 .ldLD, .f1 .ldLE, .f1 .ldLH, .f1 .ldLL, .f1 .ldLAtHl, .f1 .ldLA]
  | 0x7 => [.f1 .ldAtHlB, .f1 .ldAtHlC, .f1 .ldAtHlD, .f1 .ldAtHlE, .f1 .ldAtHlH, .f1 .ldAtHlL, .f1 .halt, .f1 .ldAtHlA,
      .f1 .ldAB, .f1 .ldAC, .f1 .ldAD, .f1 .ldAE, .f1 .ldAH, .f1 .ldAL, .f1 .ldAAtHl, .f1 .ldAA]
  | 0x8 => [.f1 .addAB, .f1 .addAC, .f1 .addAD, .f1 .addAE, .f1 .addAH, .f1 .addAL, .f1 .addAAtHl, .f1 .addAA,
      .f1 .adcAB, .f1 .adcAC, .f1 .adcAD, .f1 .adcAE, .f1 .adcAH, .f1 .adcAL, .f1 .adcAAtHl, .f1 .adcAA]
  | 0x9 => [.f1 .subB, .f1 .subC, .f1 .subD, .f1 .subE, .f1 .subH, .f1 .subL, .f1 .subAtHl, .f1 .subA,
      .f1 .sbcAB, .f1 .sbcAC, .f1 .sbcAD, .f1 .sbcAE, .f1 .sbcAH, .f1 .sbcAL, .f1 .sbcAAtHl, .f1 .sbcAA]
  | 0xA => [.f1 .andB, .f1 .andC, .f1 .andD, .f1 .andE, .f1 .andH, .f1 .andL, .f1 .andAtHl, .f1 .andA,
      .f1 .xorB, .f1 .xorC, .f1 .xorD, .f1 .xorE, .f1 .xorH, .f1 .xorL, .f1 .xorAtHl, .f1 .xorA]
  | 0xB => [.f1 .orB, .f1 .orC, .f1 .orD, .f1 .orE, .f1 .orH, .f1 .orL, .f1 .orAtHl, .f1 .orA,
      .f1 .cpB, .f1 .cpC, .f1 .cpD, .f1 .cpE, .f1 .cpH, .f1 .cpL, .f1 .cpAtHl, .f1 .cpA]
  | 0xC => [.illegal, .f1 .popBc, .f4 .jpNzN16, .f4 .jpN16, .illegal, .f1 .pushBc, .f2 .addAN8, .f1 .rst00,
      .illegal, .f1 .ret, .f4 .jpZN16, .illegal, .illegal, .f4 .callN16, .f2 .adcAN8, .f1 .rst08]
  | 0xD => [.illegal, .f1 .popDe, .illegal, .illegal, .illegal, .f1 .pushDe, .f2 .subN8, .f1 .rst10,
      .illegal, .f1 .reti, .illegal, .illegal, .illegal, .illegal, .f2 .sbcAN8, .f1 .rst18]
  | 0xE => [.f2 .ldhAtN8A, .f1 .popHl, .f1 .ldAtCA, .illegal, .illegal, .f1 .pushHl, .f2 .andN8, .f1 .rst20,
      .illegal, .illegal, .f4 .ldAtN16A, .illegal, .illegal, .illegal, .f2 .xorN8, .f1 .rst28]
  | 0xF => [.f2 .ldhAAtN8, .f1 .popAf, .f1 .ldAAtC, .f1 .di, .illegal, .f1 .pushAf, .f2 .orN8, .f1 .rst30,
      .illegal, .illegal, .f4 .ldAAtN16, .f1 .ei, .illegal, .illegal, .f2 .cpN8, .f1 .rst38]
  | _ => []

/-- The cell of a first byte. -/
def primaryCell (op : Byte) : Cell :=
  (primaryRow (op.toNat / 16)).getD (op.toNat % 16) .illegal

/-- The extended map of R105, by the high nibble of the byte after 0xCB; the rows and cells left out are illegal. -/
def extendedRow : Nat → List Instr
  | 0x1 => [.rlB, .rlC, .rlD, .rlE, .rlH, .rlL, .rlAtHl, .rlA]
  | 0x3 => [.swapB, .swapC, .swapD, .swapE, .swapH, .swapL, .swapAtHl, .swapA]
  | 0x4 => [.bit0B, .bit0C, .bit0D, .bit0E, .bit0H, .bit0L, .bit0AtHl, .bit0A,
      .bit1B, .bit1C, .bit1D, .bit1E, .bit1H, .bit1L, .bit1AtHl, .bit1A]
  | 0x5 => [.bit2B, .bit2C, .bit2D, .bit2E, .bit2H, .bit2L, .bit2AtHl, .bit2A,
      .bit3B, .bit3C, .bit3D, .bit3E, .bit3H, .bit3L, .bit3AtHl, .bit3A]
  | 0x6 => [.bit4B, .bit4C, .bit4D, .bit4E, .bit4H, .bit4L, .bit4AtHl, .bit4A,
      .bit5B, .bit5C, .bit5D, .bit5E, .bit5H, .bit5L, .bit5AtHl, .bit5A]
  | 0x7 => [.bit6B, .bit6C, .bit6D, .bit6E, .bit6H, .bit6L, .bit6AtHl, .bit6A,
      .bit7B, .bit7C, .bit7D, .bit7E, .bit7H, .bit7L, .bit7AtHl, .bit7A]
  | 0x8 => [.res0B, .res0C, .res0D, .res0E, .res0H, .res0L, .res0AtHl, .res0A,
      .res1B, .res1C, .res1D, .res1E, .res1H, .res1L, .res1AtHl, .res1A]
  | 0x9 => [.res2B, .res2C, .res2D, .res2E, .res2H, .res2L, .res2AtHl, .res2A,
      .res3B, .res3C, .res3D, .res3E, .res3H, .res3L, .res3AtHl, .res3A]
  | 0xA => [.res4B, .res4C, .res4D, .res4E, .res4H, .res4L, .res4AtHl, .res4A,
      .res5B, .res5C, .res5D, .res5E, .res5H, .res5L, .res5AtHl, .res5A]
  | 0xB => [.res6B, .res6C, .res6D, .res6E, .res6H, .res6L, .res6AtHl, .res6A,
      .res7B, .res7C, .res7D, .res7E, .res7H, .res7L, .res7AtHl, .res7A]
  | _ => []

/-- The instruction of a second byte, none where it is illegal. -/
def extendedCell (xop : Byte) : Option Instr :=
  (extendedRow (xop.toNat / 16))[xop.toNat % 16]?

/-- The 20 INFERRED first bytes (R104). -/
def inferredPrimary : List Byte :=
  [0x00, 0x34, 0x35, 0x36, 0x86, 0x8E, 0x96, 0x9E, 0xA6, 0xAE,
   0xB6, 0xBE, 0xC6, 0xCE, 0xD6, 0xDE, 0xE6, 0xEE, 0xF6, 0xFE]

/-- The 18 INFERRED second bytes (R104). -/
def inferredExtended : List Byte :=
  [0x16, 0x36, 0x46, 0x4E, 0x56, 0x5E, 0x66, 0x6E, 0x76,
   0x7E, 0x86, 0x8E, 0x96, 0x9E, 0xA6, 0xAE, 0xB6, 0xBE]

/-- The prefix byte of the extended space (R90). -/
def prefixByte : Byte := 0xCB

/-- What the bytes at an address are: an instruction and its length, or an illegal byte and the number of bytes fetched
when it was met (R103, R125). -/
inductive Decoded where
  | instr (i : Instr) (length : Nat)
  | illegal (space : Space) (opcode : Byte) (length : Nat)
deriving DecidableEq, Repr

/-- The primary lookup of R102–R104, with the two bytes after the first. -/
def decodePrimary (admitted : Bool) (op b1 b2 : Byte) : Decoded :=
  if admitted || !inferredPrimary.contains op then
    match primaryCell op with
    | .illegal => .illegal .primary op 1
    | .f1 i => .instr i 1
    | .f2 i => .instr (i b1) 2
    | .f3 i => .instr (i b1) 2
    | .f4 i => .instr (i (wordOf b2 b1)) 3
  else .illegal .primary op 1

/-- The extended lookup of R104–R106. -/
def decodeExtended (admitted : Bool) (xop : Byte) : Decoded :=
  if admitted || !inferredExtended.contains xop then
    match extendedCell xop with
    | none => .illegal .extended xop 2
    | some i => .instr i 2
  else .illegal .extended xop 2

/-- The decoder, total on any three bytes: the first byte, and the two after it, of which it uses those that the format
has (R106). DEDUCED (log 7): the bytes an instruction does not have are looked at and ignored. -/
def decode (admitted : Bool) (b0 b1 b2 : Byte) : Decoded :=
  if b0 = prefixByte then decodeExtended admitted b1 else decodePrimary admitted b0 b1 b2

/-- The decoder on a list of bytes in fetch order; a byte the list does not have reads as 0. -/
def decodeBytes (admitted : Bool) (bytes : List Byte) : Decoded :=
  decode admitted (bytes.getD 0 0) (bytes.getD 1 0) (bytes.getD 2 0)

/-- The bytes, in fetch order, of a word whose bits spec/opcode_table.json numbers. A row of the extended space is the
number 0xCBNN there (R110), its first byte in bits 15..8; in every other word bit 0 is in the first byte (log 9). -/
def tableBytes (nbits w : Nat) : List Byte :=
  let v := w % 2 ^ nbits
  if nbits = 16 ∧ v / 256 = 0xCB then [prefixByte, BitVec.ofNat 8 v]
  else [BitVec.ofNat 8 v, BitVec.ofNat 8 (v / 256), BitVec.ofNat 8 (v / 65536)]

/-- What the decoder reads from a table word under the default `ADMIT_INFERRED` (R7). -/
def decodeTableWord (nbits w : Nat) : Option Instr :=
  match decodeBytes true (tableBytes nbits w) with
  | .instr i _ => some i
  | .illegal _ _ _ => none

/-- The encoder: the bytes of an instruction in fetch order (R90, R100, R110). -/
def encode : Instr → List Byte
  | .nop => [0x00]
  | .ldBcN16 n16 => [0x01, loByte n16, hiByte n16]
  | .ldAtBcA => [0x02]
  | .incBc => [0x03]
  | .incB => [0x04]
  | .decB => [0x05]
  | .ldBN8 n8 => [0x06, n8]
  | .addHlBc => [0x09]
  | .ldAAtBc => [0x0A]
  | .decBc => [0x0B]
  | .incC => [0x0C]
  | .decC => [0x0D]
  | .ldCN8 n8 => [0x0E, n8]
  | .ldDeN16 n16 => [0x11, loByte n16, hiByte n16]
  | .ldAtDeA => [0x12]
  | .incDe => [0x13]
  | .incD => [0x14]
  | .decD => [0x15]
  | .ldDN8 n8 => [0x16, n8]
  | .jrE8 e8 => [0x18, e8]
  | .addHlDe => [0x19]
  | .ldAAtDe => [0x1A]
  | .decDe => [0x1B]
  | .incE => [0x1C]
  | .decE => [0x1D]
  | .ldEN8 n8 => [0x1E, n8]
  | .jrNzE8 e8 => [0x20, e8]
  | .ldHlN16 n16 => [0x21, loByte n16, hiByte n16]
  | .ldAtHliA => [0x22]
  | .incHl => [0x23]
  | .incH => [0x24]
  | .decH => [0x25]
  | .ldHN8 n8 => [0x26, n8]
  | .jrZE8 e8 => [0x28, e8]
  | .addHlHl => [0x29]
  | .ldAAtHli => [0x2A]
  | .decHl => [0x2B]
  | .incL => [0x2C]
  | .decL => [0x2D]
  | .ldLN8 n8 => [0x2E, n8]
  | .ldSpN16 n16 => [0x31, loByte n16, hiByte n16]
  | .ldAtHldA => [0x32]
  | .incSp => [0x33]
  | .incAtHl => [0x34]
  | .decAtHl => [0x35]
  | .ldAtHlN8 n8 => [0x36, n8]
  | .addHlSp => [0x39]
  | .ldAAtHld => [0x3A]
  | .decSp => [0x3B]
  | .incA => [0x3C]
  | .decA => [0x3D]
  | .ldAN8 n8 => [0x3E, n8]
  | .ldBB => [0x40]
  | .ldBC => [0x41]
  | .ldBD => [0x42]
  | .ldBE => [0x43]
  | .ldBH => [0x44]
  | .ldBL => [0x45]
  | .ldBAtHl => [0x46]
  | .ldBA => [0x47]
  | .ldCB => [0x48]
  | .ldCC => [0x49]
  | .ldCD => [0x4A]
  | .ldCE => [0x4B]
  | .ldCH => [0x4C]
  | .ldCL => [0x4D]
  | .ldCAtHl => [0x4E]
  | .ldCA => [0x4F]
  | .ldDB => [0x50]
  | .ldDC => [0x51]
  | .ldDD => [0x52]
  | .ldDE => [0x53]
  | .ldDH => [0x54]
  | .ldDL => [0x55]
  | .ldDAtHl => [0x56]
  | .ldDA => [0x57]
  | .ldEB => [0x58]
  | .ldEC => [0x59]
  | .ldED => [0x5A]
  | .ldEE => [0x5B]
  | .ldEH => [0x5C]
  | .ldEL => [0x5D]
  | .ldEAtHl => [0x5E]
  | .ldEA => [0x5F]
  | .ldHB => [0x60]
  | .ldHC => [0x61]
  | .ldHD => [0x62]
  | .ldHE => [0x63]
  | .ldHH => [0x64]
  | .ldHL => [0x65]
  | .ldHAtHl => [0x66]
  | .ldHA => [0x67]
  | .ldLB => [0x68]
  | .ldLC => [0x69]
  | .ldLD => [0x6A]
  | .ldLE => [0x6B]
  | .ldLH => [0x6C]
  | .ldLL => [0x6D]
  | .ldLAtHl => [0x6E]
  | .ldLA => [0x6F]
  | .ldAtHlB => [0x70]
  | .ldAtHlC => [0x71]
  | .ldAtHlD => [0x72]
  | .ldAtHlE => [0x73]
  | .ldAtHlH => [0x74]
  | .ldAtHlL => [0x75]
  | .halt => [0x76]
  | .ldAtHlA => [0x77]
  | .ldAB => [0x78]
  | .ldAC => [0x79]
  | .ldAD => [0x7A]
  | .ldAE => [0x7B]
  | .ldAH => [0x7C]
  | .ldAL => [0x7D]
  | .ldAAtHl => [0x7E]
  | .ldAA => [0x7F]
  | .addAB => [0x80]
  | .addAC => [0x81]
  | .addAD => [0x82]
  | .addAE => [0x83]
  | .addAH => [0x84]
  | .addAL => [0x85]
  | .addAAtHl => [0x86]
  | .addAA => [0x87]
  | .adcAB => [0x88]
  | .adcAC => [0x89]
  | .adcAD => [0x8A]
  | .adcAE => [0x8B]
  | .adcAH => [0x8C]
  | .adcAL => [0x8D]
  | .adcAAtHl => [0x8E]
  | .adcAA => [0x8F]
  | .subB => [0x90]
  | .subC => [0x91]
  | .subD => [0x92]
  | .subE => [0x93]
  | .subH => [0x94]
  | .subL => [0x95]
  | .subAtHl => [0x96]
  | .subA => [0x97]
  | .sbcAB => [0x98]
  | .sbcAC => [0x99]
  | .sbcAD => [0x9A]
  | .sbcAE => [0x9B]
  | .sbcAH => [0x9C]
  | .sbcAL => [0x9D]
  | .sbcAAtHl => [0x9E]
  | .sbcAA => [0x9F]
  | .andB => [0xA0]
  | .andC => [0xA1]
  | .andD => [0xA2]
  | .andE => [0xA3]
  | .andH => [0xA4]
  | .andL => [0xA5]
  | .andAtHl => [0xA6]
  | .andA => [0xA7]
  | .xorB => [0xA8]
  | .xorC => [0xA9]
  | .xorD => [0xAA]
  | .xorE => [0xAB]
  | .xorH => [0xAC]
  | .xorL => [0xAD]
  | .xorAtHl => [0xAE]
  | .xorA => [0xAF]
  | .orB => [0xB0]
  | .orC => [0xB1]
  | .orD => [0xB2]
  | .orE => [0xB3]
  | .orH => [0xB4]
  | .orL => [0xB5]
  | .orAtHl => [0xB6]
  | .orA => [0xB7]
  | .cpB => [0xB8]
  | .cpC => [0xB9]
  | .cpD => [0xBA]
  | .cpE => [0xBB]
  | .cpH => [0xBC]
  | .cpL => [0xBD]
  | .cpAtHl => [0xBE]
  | .cpA => [0xBF]
  | .popBc => [0xC1]
  | .jpNzN16 n16 => [0xC2, loByte n16, hiByte n16]
  | .jpN16 n16 => [0xC3, loByte n16, hiByte n16]
  | .pushBc => [0xC5]
  | .addAN8 n8 => [0xC6, n8]
  | .rst00 => [0xC7]
  | .ret => [0xC9]
  | .jpZN16 n16 => [0xCA, loByte n16, hiByte n16]
  | .callN16 n16 => [0xCD, loByte n16, hiByte n16]
  | .adcAN8 n8 => [0xCE, n8]
  | .rst08 => [0xCF]
  | .popDe => [0xD1]
  | .pushDe => [0xD5]
  | .subN8 n8 => [0xD6, n8]
  | .rst10 => [0xD7]
  | .reti => [0xD9]
  | .sbcAN8 n8 => [0xDE, n8]
  | .rst18 => [0xDF]
  | .ldhAtN8A n8 => [0xE0, n8]
  | .popHl => [0xE1]
  | .ldAtCA => [0xE2]
  | .pushHl => [0xE5]
  | .andN8 n8 => [0xE6, n8]
  | .rst20 => [0xE7]
  | .ldAtN16A n16 => [0xEA, loByte n16, hiByte n16]
  | .xorN8 n8 => [0xEE, n8]
  | .rst28 => [0xEF]
  | .ldhAAtN8 n8 => [0xF0, n8]
  | .popAf => [0xF1]
  | .ldAAtC => [0xF2]
  | .di => [0xF3]
  | .pushAf => [0xF5]
  | .orN8 n8 => [0xF6, n8]
  | .rst30 => [0xF7]
  | .ldAAtN16 n16 => [0xFA, loByte n16, hiByte n16]
  | .ei => [0xFB]
  | .cpN8 n8 => [0xFE, n8]
  | .rst38 => [0xFF]
  | .rlB => [0xCB, 0x10]
  | .rlC => [0xCB, 0x11]
  | .rlD => [0xCB, 0x12]
  | .rlE => [0xCB, 0x13]
  | .rlH => [0xCB, 0x14]
  | .rlL => [0xCB, 0x15]
  | .rlAtHl => [0xCB, 0x16]
  | .rlA => [0xCB, 0x17]
  | .swapB => [0xCB, 0x30]
  | .swapC => [0xCB, 0x31]
  | .swapD => [0xCB, 0x32]
  | .swapE => [0xCB, 0x33]
  | .swapH => [0xCB, 0x34]
  | .swapL => [0xCB, 0x35]
  | .swapAtHl => [0xCB, 0x36]
  | .swapA => [0xCB, 0x37]
  | .bit0B => [0xCB, 0x40]
  | .bit0C => [0xCB, 0x41]
  | .bit0D => [0xCB, 0x42]
  | .bit0E => [0xCB, 0x43]
  | .bit0H => [0xCB, 0x44]
  | .bit0L => [0xCB, 0x45]
  | .bit0AtHl => [0xCB, 0x46]
  | .bit0A => [0xCB, 0x47]
  | .bit1B => [0xCB, 0x48]
  | .bit1C => [0xCB, 0x49]
  | .bit1D => [0xCB, 0x4A]
  | .bit1E => [0xCB, 0x4B]
  | .bit1H => [0xCB, 0x4C]
  | .bit1L => [0xCB, 0x4D]
  | .bit1AtHl => [0xCB, 0x4E]
  | .bit1A => [0xCB, 0x4F]
  | .bit2B => [0xCB, 0x50]
  | .bit2C => [0xCB, 0x51]
  | .bit2D => [0xCB, 0x52]
  | .bit2E => [0xCB, 0x53]
  | .bit2H => [0xCB, 0x54]
  | .bit2L => [0xCB, 0x55]
  | .bit2AtHl => [0xCB, 0x56]
  | .bit2A => [0xCB, 0x57]
  | .bit3B => [0xCB, 0x58]
  | .bit3C => [0xCB, 0x59]
  | .bit3D => [0xCB, 0x5A]
  | .bit3E => [0xCB, 0x5B]
  | .bit3H => [0xCB, 0x5C]
  | .bit3L => [0xCB, 0x5D]
  | .bit3AtHl => [0xCB, 0x5E]
  | .bit3A => [0xCB, 0x5F]
  | .bit4B => [0xCB, 0x60]
  | .bit4C => [0xCB, 0x61]
  | .bit4D => [0xCB, 0x62]
  | .bit4E => [0xCB, 0x63]
  | .bit4H => [0xCB, 0x64]
  | .bit4L => [0xCB, 0x65]
  | .bit4AtHl => [0xCB, 0x66]
  | .bit4A => [0xCB, 0x67]
  | .bit5B => [0xCB, 0x68]
  | .bit5C => [0xCB, 0x69]
  | .bit5D => [0xCB, 0x6A]
  | .bit5E => [0xCB, 0x6B]
  | .bit5H => [0xCB, 0x6C]
  | .bit5L => [0xCB, 0x6D]
  | .bit5AtHl => [0xCB, 0x6E]
  | .bit5A => [0xCB, 0x6F]
  | .bit6B => [0xCB, 0x70]
  | .bit6C => [0xCB, 0x71]
  | .bit6D => [0xCB, 0x72]
  | .bit6E => [0xCB, 0x73]
  | .bit6H => [0xCB, 0x74]
  | .bit6L => [0xCB, 0x75]
  | .bit6AtHl => [0xCB, 0x76]
  | .bit6A => [0xCB, 0x77]
  | .bit7B => [0xCB, 0x78]
  | .bit7C => [0xCB, 0x79]
  | .bit7D => [0xCB, 0x7A]
  | .bit7E => [0xCB, 0x7B]
  | .bit7H => [0xCB, 0x7C]
  | .bit7L => [0xCB, 0x7D]
  | .bit7AtHl => [0xCB, 0x7E]
  | .bit7A => [0xCB, 0x7F]
  | .res0B => [0xCB, 0x80]
  | .res0C => [0xCB, 0x81]
  | .res0D => [0xCB, 0x82]
  | .res0E => [0xCB, 0x83]
  | .res0H => [0xCB, 0x84]
  | .res0L => [0xCB, 0x85]
  | .res0AtHl => [0xCB, 0x86]
  | .res0A => [0xCB, 0x87]
  | .res1B => [0xCB, 0x88]
  | .res1C => [0xCB, 0x89]
  | .res1D => [0xCB, 0x8A]
  | .res1E => [0xCB, 0x8B]
  | .res1H => [0xCB, 0x8C]
  | .res1L => [0xCB, 0x8D]
  | .res1AtHl => [0xCB, 0x8E]
  | .res1A => [0xCB, 0x8F]
  | .res2B => [0xCB, 0x90]
  | .res2C => [0xCB, 0x91]
  | .res2D => [0xCB, 0x92]
  | .res2E => [0xCB, 0x93]
  | .res2H => [0xCB, 0x94]
  | .res2L => [0xCB, 0x95]
  | .res2AtHl => [0xCB, 0x96]
  | .res2A => [0xCB, 0x97]
  | .res3B => [0xCB, 0x98]
  | .res3C => [0xCB, 0x99]
  | .res3D => [0xCB, 0x9A]
  | .res3E => [0xCB, 0x9B]
  | .res3H => [0xCB, 0x9C]
  | .res3L => [0xCB, 0x9D]
  | .res3AtHl => [0xCB, 0x9E]
  | .res3A => [0xCB, 0x9F]
  | .res4B => [0xCB, 0xA0]
  | .res4C => [0xCB, 0xA1]
  | .res4D => [0xCB, 0xA2]
  | .res4E => [0xCB, 0xA3]
  | .res4H => [0xCB, 0xA4]
  | .res4L => [0xCB, 0xA5]
  | .res4AtHl => [0xCB, 0xA6]
  | .res4A => [0xCB, 0xA7]
  | .res5B => [0xCB, 0xA8]
  | .res5C => [0xCB, 0xA9]
  | .res5D => [0xCB, 0xAA]
  | .res5E => [0xCB, 0xAB]
  | .res5H => [0xCB, 0xAC]
  | .res5L => [0xCB, 0xAD]
  | .res5AtHl => [0xCB, 0xAE]
  | .res5A => [0xCB, 0xAF]
  | .res6B => [0xCB, 0xB0]
  | .res6C => [0xCB, 0xB1]
  | .res6D => [0xCB, 0xB2]
  | .res6E => [0xCB, 0xB3]
  | .res6H => [0xCB, 0xB4]
  | .res6L => [0xCB, 0xB5]
  | .res6AtHl => [0xCB, 0xB6]
  | .res6A => [0xCB, 0xB7]
  | .res7B => [0xCB, 0xB8]
  | .res7C => [0xCB, 0xB9]
  | .res7D => [0xCB, 0xBA]
  | .res7E => [0xCB, 0xBB]
  | .res7H => [0xCB, 0xBC]
  | .res7L => [0xCB, 0xBD]
  | .res7AtHl => [0xCB, 0xBE]
  | .res7A => [0xCB, 0xBF]

end Sys2Proof
end

