-- ==== Sys2Proof/Config.lean ====
section
/-! DEFINITION. The shape of the block's parameters (R7, R45): the admission switch and the cycle table.
Their default values are in Machine/Parameters.lean. -/

namespace Sys2Proof

/-- The number of cycles one instruction costs: the source fixes the range 4 to 24 (R128). -/
abbrev Cost := { n : Nat // 4 ≤ n ∧ n ≤ 24 }

/-- The parameter `CYCLES` (R7, R128, R129): the cost of each instruction, one for each of the 362 rows of
opcode_table.json in its order, and for each of the four conditional instructions the cost when it is not taken. -/
structure CycleTable where
  /-- The cost of a row; of a conditional row, the cost when it is taken. -/
  rows : Vector Cost 362
  jrNzNotTaken : Cost
  jrZNotTaken : Cost
  jpNzNotTaken : Cost
  jpZNotTaken : Cost
deriving DecidableEq, Repr

/-- The parameters of the block that a step reads (R7): `ADMIT_INFERRED` and `CYCLES`.
The ROM image is in memory; the reset values are arguments of `State.resetOf`. -/
structure Params where
  /-- `ADMIT_INFERRED` (R104): whether the 38 INFERRED encodings are instructions. -/
  admitInferred : Bool
  /-- `CYCLES` (R128). -/
  cycles : CycleTable
deriving DecidableEq, Repr

end Sys2Proof
end

