-- ==== Sys2Proof/Machine/Parameters.lean ====
section
/-! DEFINITION. The cost of each instruction under `CYCLES`, and the default values of the block's parameters (R7, R104,
R128, R129). -/

namespace Sys2Proof

/-! ### The cost of an instruction -/

/-- The row of opcode_table.json an instruction is, counted from 0: the primary opcodes in ascending order, then the
extended ones (R110). -/
def Instr.row : Instr → Fin 362
  | .nop => 0 | .ldBcN16 _ => 1 | .ldAtBcA => 2 | .incBc => 3 | .incB => 4 | .decB => 5 | .ldBN8 _ => 6
  | .addHlBc => 7 | .ldAAtBc => 8 | .decBc => 9 | .incC => 10 | .decC => 11 | .ldCN8 _ => 12 | .ldDeN16 _ => 13
  | .ldAtDeA => 14 | .incDe => 15 | .incD => 16 | .decD => 17 | .ldDN8 _ => 18 | .jrE8 _ => 19 | .addHlDe => 20
  | .ldAAtDe => 21 | .decDe => 22 | .incE => 23 | .decE => 24 | .ldEN8 _ => 25 | .jrNzE8 _ => 26 | .ldHlN16 _ => 27
  | .ldAtHliA => 28 | .incHl => 29 | .incH => 30 | .decH => 31 | .ldHN8 _ => 32 | .jrZE8 _ => 33 | .addHlHl => 34
  | .ldAAtHli => 35 | .decHl => 36 | .incL => 37 | .decL => 38 | .ldLN8 _ => 39 | .ldSpN16 _ => 40 | .ldAtHldA => 41
  | .incSp => 42 | .incAtHl => 43 | .decAtHl => 44 | .ldAtHlN8 _ => 45 | .addHlSp => 46 | .ldAAtHld => 47
  | .decSp => 48 | .incA => 49 | .decA => 50 | .ldAN8 _ => 51 | .ldBB => 52 | .ldBC => 53 | .ldBD => 54 | .ldBE => 55
  | .ldBH => 56 | .ldBL => 57 | .ldBAtHl => 58 | .ldBA => 59 | .ldCB => 60 | .ldCC => 61 | .ldCD => 62 | .ldCE => 63
  | .ldCH => 64 | .ldCL => 65 | .ldCAtHl => 66 | .ldCA => 67 | .ldDB => 68 | .ldDC => 69 | .ldDD => 70 | .ldDE => 71
  | .ldDH => 72 | .ldDL => 73 | .ldDAtHl => 74 | .ldDA => 75 | .ldEB => 76 | .ldEC => 77 | .ldED => 78 | .ldEE => 79
  | .ldEH => 80 | .ldEL => 81 | .ldEAtHl => 82 | .ldEA => 83 | .ldHB => 84 | .ldHC => 85 | .ldHD => 86 | .ldHE => 87
  | .ldHH => 88 | .ldHL => 89 | .ldHAtHl => 90 | .ldHA => 91 | .ldLB => 92 | .ldLC => 93 | .ldLD => 94 | .ldLE => 95
  | .ldLH => 96 | .ldLL => 97 | .ldLAtHl => 98 | .ldLA => 99 | .ldAtHlB => 100 | .ldAtHlC => 101 | .ldAtHlD => 102
  | .ldAtHlE => 103 | .ldAtHlH => 104 | .ldAtHlL => 105 | .halt => 106 | .ldAtHlA => 107 | .ldAB => 108 | .ldAC => 109
  | .ldAD => 110 | .ldAE => 111 | .ldAH => 112 | .ldAL => 113 | .ldAAtHl => 114 | .ldAA => 115 | .addAB => 116
  | .addAC => 117 | .addAD => 118 | .addAE => 119 | .addAH => 120 | .addAL => 121 | .addAAtHl => 122 | .addAA => 123
  | .adcAB => 124 | .adcAC => 125 | .adcAD => 126 | .adcAE => 127 | .adcAH => 128 | .adcAL => 129 | .adcAAtHl => 130
  | .adcAA => 131 | .subB => 132 | .subC => 133 | .subD => 134 | .subE => 135 | .subH => 136 | .subL => 137
  | .subAtHl => 138 | .subA => 139 | .sbcAB => 140 | .sbcAC => 141 | .sbcAD => 142 | .sbcAE => 143 | .sbcAH => 144
  | .sbcAL => 145 | .sbcAAtHl => 146 | .sbcAA => 147 | .andB => 148 | .andC => 149 | .andD => 150 | .andE => 151
  | .andH => 152 | .andL => 153 | .andAtHl => 154 | .andA => 155 | .xorB => 156 | .xorC => 157 | .xorD => 158
  | .xorE => 159 | .xorH => 160 | .xorL => 161 | .xorAtHl => 162 | .xorA => 163 | .orB => 164 | .orC => 165
  | .orD => 166 | .orE => 167 | .orH => 168 | .orL => 169 | .orAtHl => 170 | .orA => 171 | .cpB => 172 | .cpC => 173
  | .cpD => 174 | .cpE => 175 | .cpH => 176 | .cpL => 177 | .cpAtHl => 178 | .cpA => 179 | .popBc => 180
  | .jpNzN16 _ => 181 | .jpN16 _ => 182 | .pushBc => 183 | .addAN8 _ => 184 | .rst00 => 185 | .ret => 186
  | .jpZN16 _ => 187 | .callN16 _ => 188 | .adcAN8 _ => 189 | .rst08 => 190 | .popDe => 191 | .pushDe => 192
  | .subN8 _ => 193 | .rst10 => 194 | .reti => 195 | .sbcAN8 _ => 196 | .rst18 => 197 | .ldhAtN8A _ => 198
  | .popHl => 199 | .ldAtCA => 200 | .pushHl => 201 | .andN8 _ => 202 | .rst20 => 203 | .ldAtN16A _ => 204
  | .xorN8 _ => 205 | .rst28 => 206 | .ldhAAtN8 _ => 207 | .popAf => 208 | .ldAAtC => 209 | .di => 210
  | .pushAf => 211 | .orN8 _ => 212 | .rst30 => 213 | .ldAAtN16 _ => 214 | .ei => 215 | .cpN8 _ => 216 | .rst38 => 217
  | .rlB => 218 | .rlC => 219 | .rlD => 220 | .rlE => 221 | .rlH => 222 | .rlL => 223 | .rlAtHl => 224 | .rlA => 225
  | .swapB => 226 | .swapC => 227 | .swapD => 228 | .swapE => 229 | .swapH => 230 | .swapL => 231 | .swapAtHl => 232
  | .swapA => 233 | .bit0B => 234 | .bit0C => 235 | .bit0D => 236 | .bit0E => 237 | .bit0H => 238 | .bit0L => 239
  | .bit0AtHl => 240 | .bit0A => 241 | .bit1B => 242 | .bit1C => 243 | .bit1D => 244 | .bit1E => 245 | .bit1H => 246
  | .bit1L => 247 | .bit1AtHl => 248 | .bit1A => 249 | .bit2B => 250 | .bit2C => 251 | .bit2D => 252 | .bit2E => 253
  | .bit2H => 254 | .bit2L => 255 | .bit2AtHl => 256 | .bit2A => 257 | .bit3B => 258 | .bit3C => 259 | .bit3D => 260
  | .bit3E => 261 | .bit3H => 262 | .bit3L => 263 | .bit3AtHl => 264 | .bit3A => 265 | .bit4B => 266 | .bit4C => 267
  | .bit4D => 268 | .bit4E => 269 | .bit4H => 270 | .bit4L => 271 | .bit4AtHl => 272 | .bit4A => 273 | .bit5B => 274
  | .bit5C => 275 | .bit5D => 276 | .bit5E => 277 | .bit5H => 278 | .bit5L => 279 | .bit5AtHl => 280 | .bit5A => 281
  | .bit6B => 282 | .bit6C => 283 | .bit6D => 284 | .bit6E => 285 | .bit6H => 286 | .bit6L => 287 | .bit6AtHl => 288
  | .bit6A => 289 | .bit7B => 290 | .bit7C => 291 | .bit7D => 292 | .bit7E => 293 | .bit7H => 294 | .bit7L => 295
  | .bit7AtHl => 296 | .bit7A => 297 | .res0B => 298 | .res0C => 299 | .res0D => 300 | .res0E => 301 | .res0H => 302
  | .res0L => 303 | .res0AtHl => 304 | .res0A => 305 | .res1B => 306 | .res1C => 307 | .res1D => 308 | .res1E => 309
  | .res1H => 310 | .res1L => 311 | .res1AtHl => 312 | .res1A => 313 | .res2B => 314 | .res2C => 315 | .res2D => 316
  | .res2E => 317 | .res2H => 318 | .res2L => 319 | .res2AtHl => 320 | .res2A => 321 | .res3B => 322 | .res3C => 323
  | .res3D => 324 | .res3E => 325 | .res3H => 326 | .res3L => 327 | .res3AtHl => 328 | .res3A => 329 | .res4B => 330
  | .res4C => 331 | .res4D => 332 | .res4E => 333 | .res4H => 334 | .res4L => 335 | .res4AtHl => 336 | .res4A => 337
  | .res5B => 338 | .res5C => 339 | .res5D => 340 | .res5E => 341 | .res5H => 342 | .res5L => 343 | .res5AtHl => 344
  | .res5A => 345 | .res6B => 346 | .res6C => 347 | .res6D => 348 | .res6E => 349 | .res6H => 350 | .res6L => 351
  | .res6AtHl => 352 | .res6A => 353 | .res7B => 354 | .res7C => 355 | .res7D => 356 | .res7E => 357 | .res7H => 358
  | .res7L => 359 | .res7AtHl => 360 | .res7A => 361

/-- The cost of an instruction (R128); of a conditional one, the cost when it is taken. -/
def CycleTable.cost (table : CycleTable) (i : Instr) : Cost := table.rows.get i.row

/-- The cost of JR cc,e8 when it is not taken (R129). -/
def CycleTable.jrNotTaken (table : CycleTable) : Cond → Cost
  | .nz => table.jrNzNotTaken
  | .z => table.jrZNotTaken

/-- The cost of JP cc,n16 when it is not taken (R129). -/
def CycleTable.jpNotTaken (table : CycleTable) : Cond → Cost
  | .nz => table.jpNzNotTaken
  | .z => table.jpZNotTaken

/-! ### The defaults -/

/-- A list of costs written as numerals, each in the range 4..24 of R128. -/
def costs (l : List Nat) (h : ∀ n ∈ l, 4 ≤ n ∧ n ≤ 24 := by decide) : List Cost := l.attachWith _ h

/-- The costs of eight neighbouring rows, operand codes 0 to 7: registers but for code 6, which is (HL) (R92). -/
def operandRows (register memory : Nat) (hr : 4 ≤ register ∧ register ≤ 24 := by decide)
    (hm : 4 ≤ memory ∧ memory ≤ 24 := by decide) : List Cost :=
  List.replicate 6 ⟨register, hr⟩ ++ [⟨memory, hm⟩, ⟨register, hr⟩]

/-- The default costs of the rows whose first byte is 0x00 to 0x3F. -/
def standardLow : List Cost :=
  costs [4, 12, 8, 8, 4, 4, 8, 8, 8, 8, 4, 4, 8] ++      -- 0x
  costs [12, 8, 8, 4, 4, 8, 12, 8, 8, 8, 4, 4, 8] ++     -- 1x
  costs [12, 12, 8, 8, 4, 4, 8, 12, 8, 8, 8, 4, 4, 8] ++ -- 2x
  costs [12, 8, 8, 12, 12, 12, 8, 8, 8, 4, 4, 8]         -- 3x

/-- The default costs of the rows 0x40 to 0xBF: LD d,s and LD d,(HL); LD (HL),s and HALT; LD A; the eight operations of the
ALU. -/
def standardMiddle : List Cost :=
  (List.replicate 6 (operandRows 4 8)).flatten ++ costs [8, 8, 8, 8, 8, 8, 4, 8] ++ operandRows 4 8 ++
  (List.replicate 8 (operandRows 4 8)).flatten

/-- The default costs of the rows 0xC0 to 0xFF. -/
def standardHigh : List Cost :=
  costs [12, 16, 16, 16, 8, 16, 16, 16, 24, 8, 16] ++    -- Cx
  costs [12, 16, 8, 16, 16, 8, 16] ++                    -- Dx
  costs [12, 12, 8, 16, 8, 16, 16, 8, 16] ++             -- Ex
  costs [12, 12, 8, 4, 16, 8, 16, 16, 4, 8, 16]          -- Fx

/-- The default costs of the extended rows: RL, SWAP, the eight of BIT, the eight of RES. -/
def standardExtended : List Cost :=
  operandRows 8 16 ++ operandRows 8 16 ++ (List.replicate 8 (operandRows 8 12)).flatten ++
  (List.replicate 8 (operandRows 8 16)).flatten

/-- A cost written as a numeral. -/
def numeralCost (n : Nat) (h : 4 ≤ n ∧ n ≤ 24 := by decide) : Cost := ⟨n, h⟩

/-- The default `CYCLES`: the costs of R128 and R129, which the `cycles` column of opcode_table.json repeats row by row. -/
def CycleTable.standard : CycleTable where
  rows := ⟨(standardLow ++ standardMiddle ++ standardHigh ++ standardExtended).toArray, by decide +kernel⟩
  jrNzNotTaken := numeralCost 8
  jrZNotTaken := numeralCost 8
  jpNzNotTaken := numeralCost 12
  jpZNotTaken := numeralCost 12

/-- The defaults of R7: `ADMIT_INFERRED` true, `CYCLES` as R128 gives it. -/
def Params.standard : Params where
  admitInferred := true
  cycles := CycleTable.standard

/-- The cost of a halted Step, fixed by the source and no parameter (R121). -/
def haltedCycles : Nat := 4

/-- The cycles an interrupt dispatch reports, fixed by the source and no parameter (R407). -/
def dispatchCycles : Nat := 20

end Sys2Proof
end

