-- ==== Sys2Proof/Machine/State.lean ====
section
/-! DEFINITION. The state of the block as plain data (10_state.md), the ways a step can stop, and the state after reset. -/

namespace Sys2Proof.Machine

/-- The record of the decode fault (R401): the opcode space, the offending byte, and the address of the instruction's
first byte. -/
structure IllegalInstruction where
  space : Space
  opcode : Byte
  pc : Word
deriving DecidableEq, Repr

/-- Memory as (address, byte) pairs in one canonical form (`Memory.wf` of Machine/Ops.lean); an address that is not
listed reads as `unlistedByte`. -/
abbrev Memory := List Host.Cell

/-- A grid of 144 rows of 160 colour indices (R40). -/
abbrev FrameBuffer := Vector (Vector Pixel 160) 144

/-- The whole state of the block (R20–R45). ROM, VRAM, work RAM, OAM, the I/O bytes (LCDC and IF among them), high RAM
and IE are the ranges of `mem` that the decoder gives them (R61). -/
structure State where
  /-- The accumulator A (R21). -/
  a : Byte
  /-- The flag register F: Z N H C in bits 7..4, bits 3..0 zero (R22, R23). -/
  f : Byte
  b : Byte
  c : Byte
  d : Byte
  e : Byte
  h : Byte
  l : Byte
  /-- The stack pointer (R26). -/
  sp : Word
  /-- The program counter (R27). -/
  pc : Word
  /-- The interrupt-master-enable (R28). -/
  ime : Bool
  /-- The state HALT enters (R29). -/
  halted : Bool
  /-- The record of the decode fault, once it was raised (R30). -/
  fault : Option IllegalInstruction
  /-- Every byte with storage behind it, keyed by its address (R31–R37). -/
  mem : Memory
  /-- The scanline counter LY (R38). -/
  ly : Byte
  /-- The cycle accumulator of the scanline timer (R39). -/
  acc : Nat
  /-- The back buffer (R40). -/
  back : FrameBuffer
  /-- The front buffer, the only one the host reads (R40). -/
  front : FrameBuffer
  /-- The parameters of the block (R7, R45); no step changes them. DESIGN CHOICE (log 4): held in State. -/
  params : Params
  /-- The model's own: the number Step() returned to the host (R12, R126). DESIGN CHOICE (log 5). -/
  cycles : Nat
  /-- The model's own: the number HandleInterrupts() returned to the host (R126, R404). DESIGN CHOICE (log 5). -/
  extra : Nat
deriving DecidableEq, Repr

/-- The faults the machine stops with. -/
inductive Fault where
  /-- Raised by `step` in a state whose `fault` already holds the record: a faulted block takes no further step (R120,
  R400). Safe: the spec gives such a block no behaviour (U8, log 6). -/
  | illegalInstruction (record : IllegalInstruction)
deriving DecidableEq, Repr

/-- The reasons an instruction has no meaning. -/
inductive Refusal where
  /-- Raised by an arm of `exec` whose instruction has no meaning in the model. Safe: the machine stops. -/
  | notModelled (mnemonic : String)
deriving DecidableEq, Repr

/-- What a meaning and a step answer. -/
abbrev Result := Host.Outcome State Fault Refusal

/-- A frame buffer of colour index 0 (R44, D6). -/
def FrameBuffer.blank : FrameBuffer := Vector.replicate 144 (Vector.replicate 160 0)

/-- The machine after reset (R44, R440). IME, halted, fault, LY, acc and the buffers are the spec's values; the OPEN
registers, SP, PC, ROM and memory are DESIGN CHOICE (log 1, log 2, log 3), unsafe. -/
def State.reset : State where
  a := 0
  f := 0
  b := 0
  c := 0
  d := 0
  e := 0
  h := 0
  l := 0
  sp := 0
  pc := 0x0100
  ime := false
  halted := false
  fault := none
  mem := []
  ly := 0
  acc := 0
  back := FrameBuffer.blank
  front := FrameBuffer.blank
  params := Params.standard
  cycles := 0
  extra := 0

end Sys2Proof.Machine
end

