-- ==== Sys2Proof/Machine/Ops.lean ====
section
/-! DEFINITION. The named operations over registers and memory: one update for each part of the state, the address
decoder (R61, R62), the stack primitives (R300, R301), raising the decode fault (R400), dispatching the VBlank
interrupt (R407) and returning from its handler (R277). -/

namespace Sys2Proof.Machine

/-! ### Updates of one part of the state -/

def State.setF (s : State) (v : Byte) : State := { s with f := v }
def State.setSp (s : State) (v : Word) : State := { s with sp := v }
def State.setPc (s : State) (v : Word) : State := { s with pc := v }
def State.setIme (s : State) (v : Bool) : State := { s with ime := v }
def State.setHalted (s : State) (v : Bool) : State := { s with halted := v }
def State.setFault (s : State) (v : Option IllegalInstruction) : State := { s with fault := v }
def State.setMem (s : State) (v : Memory) : State := { s with mem := v }
def State.setLy (s : State) (v : Byte) : State := { s with ly := v }
def State.setAcc (s : State) (v : Nat) : State := { s with acc := v }
def State.setBack (s : State) (v : FrameBuffer) : State := { s with back := v }
def State.setFront (s : State) (v : FrameBuffer) : State := { s with front := v }
def State.setCycles (s : State) (v : Nat) : State := { s with cycles := v }
def State.setExtra (s : State) (v : Nat) : State := { s with extra := v }

/-! ### Registers -/

/-- `x[r]` of R10: the register a field names (R92). -/
def State.reg (s : State) : Reg8 → Byte
  | .b => s.b
  | .c => s.c
  | .d => s.d
  | .e => s.e
  | .h => s.h
  | .l => s.l
  | .a => s.a

/-- `x[r] <- v` of R10. -/
def State.setReg (s : State) (r : Reg8) (v : Byte) : State :=
  match r with
  | .b => { s with b := v }
  | .c => { s with c := v }
  | .d => { s with d := v }
  | .e => { s with e := v }
  | .h => { s with h := v }
  | .l => { s with l := v }
  | .a => { s with a := v }

/-- The pair dd, the first-named register in the high byte (R24, R26). -/
def State.pair (s : State) : Pair → Word
  | .bc => wordOf s.b s.c
  | .de => wordOf s.d s.e
  | .hl => wordOf s.h s.l
  | .sp => s.sp

/-- A write of the pair dd (R24, R26). -/
def State.setPair (s : State) (p : Pair) (v : Word) : State :=
  match p with
  | .bc => (s.setReg .b (hiByte v)).setReg .c (loByte v)
  | .de => (s.setReg .d (hiByte v)).setReg .e (loByte v)
  | .hl => (s.setReg .h (hiByte v)).setReg .l (loByte v)
  | .sp => s.setSp v

/-- HL, the address of the (HL) operand. -/
def State.hl (s : State) : Word := s.pair .hl

/-- The pair qq (R24, R25). -/
def State.stackPair (s : State) : StackPair → Word
  | .bc => s.pair .bc
  | .de => s.pair .de
  | .hl => s.pair .hl
  | .af => wordOf s.a s.f

/-- A write of the pair qq; the AF setter masks the low nibble of F (R25). -/
def State.setStackPair (s : State) (q : StackPair) (v : Word) : State :=
  match q with
  | .bc => s.setPair .bc v
  | .de => s.setPair .de v
  | .hl => s.setPair .hl v
  | .af => (s.setReg .a (hiByte v)).setF (loByte v &&& 0xF0)

/-! ### Memory -/

/-- What an address that is not listed reads as. DESIGN CHOICE (log 3), unsafe: `RESET_MEM` is OPEN. -/
def unlistedByte : Byte := 0

/-- The byte at an address. -/
def Memory.read (m : Memory) (a : Nat) : Byte :=
  match m with
  | [] => unlistedByte
  | (k, v) :: t => if k = a then v else Memory.read t a

/-- Put a byte in front of a list whose addresses are all higher; a byte that an unlisted address reads as is left out. -/
def Memory.cons (a : Nat) (v : Byte) (m : Memory) : Memory :=
  if v = unlistedByte then m else (a, v) :: m

/-- Put a byte at its place in a list that does not hold its address. -/
def Memory.insert (m : Memory) (a : Nat) (v : Byte) : Memory :=
  match m with
  | [] => Memory.cons a v []
  | (k, w) :: t => if a < k then Memory.cons a v ((k, w) :: t) else (k, w) :: Memory.insert t a v

/-- Store a byte: its old entry goes, and the new one keeps the canonical form. -/
def Memory.write (m : Memory) (a : Nat) (v : Byte) : Memory :=
  Memory.insert (m.filter fun c => decide (c.1 ≠ a)) a v

/-- Whether every address of a list is above a bound. -/
def Memory.above (m : Memory) (a : Nat) : Bool := m.all fun c => decide (a < c.1)

/-- The canonical form: addresses strictly rising and below 65536, and no entry that reads as an unlisted address. -/
def Memory.wf : Memory → Bool
  | [] => true
  | (k, v) :: t => decide (k < 65536) && decide (v ≠ unlistedByte) && Memory.above t k && Memory.wf t

/-- The regions of the address map (R61). -/
inductive Region where
  | rom | vram | externalRam | workRam | echoRam | oam | unusable | ly | io | highRam | interruptEnable
deriving DecidableEq, Repr

/-- The row of R61 that an address falls in. -/
def regionOf (addr : Word) : Region :=
  if addr.toNat ≤ 0x7FFF then .rom
  else if addr.toNat ≤ 0x9FFF then .vram
  else if addr.toNat ≤ 0xBFFF then .externalRam
  else if addr.toNat ≤ 0xDFFF then .workRam
  else if addr.toNat ≤ 0xFDFF then .echoRam
  else if addr.toNat ≤ 0xFE9F then .oam
  else if addr.toNat ≤ 0xFEFF then .unusable
  else if addr.toNat = 0xFF44 then .ly
  else if addr.toNat ≤ 0xFF7F then .io
  else if addr.toNat ≤ 0xFFFE then .highRam
  else .interruptEnable

/-- The regions with storage behind them (R61). -/
def Region.stored : Region → Bool
  | .rom | .vram | .workRam | .oam | .io | .highRam | .interruptEnable => true
  | .externalRam | .echoRam | .unusable | .ly => false

/-- The regions a write of the CPU stores to (R62). -/
def Region.writable : Region → Bool
  | .vram | .workRam | .oam | .io | .highRam | .interruptEnable => true
  | .rom | .externalRam | .echoRam | .unusable | .ly => false

/-- `MemRead(addr, 1)` (R61): a stub reads 0, 0xFF44 reads LY. -/
def State.memRead (s : State) (addr : Word) : Byte :=
  match regionOf addr with
  | .rom | .vram | .workRam | .oam | .io | .highRam | .interruptEnable => s.mem.read addr.toNat
  | .externalRam | .echoRam | .unusable => 0
  | .ly => s.ly

/-- `MemWrite(addr, 1, v)` (R62): a write to ROM, a stub or 0xFF44 does nothing. -/
def State.memWrite (s : State) (addr : Word) (v : Byte) : State :=
  s.setMem (if (regionOf addr).writable then s.mem.write addr.toNat v else s.mem)

/-- IF, the I/O byte at 0xFF0F (R36), read and written directly by the timer and the interrupt controller. -/
def State.ifReg (s : State) : Byte := s.mem.read 0xFF0F

def State.setIfReg (s : State) (v : Byte) : State := s.setMem (s.mem.write 0xFF0F v)

/-- IE, the byte at 0xFFFF (R37). -/
def State.ieReg (s : State) : Byte := s.mem.read 0xFFFF

/-- LCDC, the I/O byte at 0xFF40 (R35). -/
def State.lcdc (s : State) : Byte := s.mem.read 0xFF40

/-- The VRAM byte at an offset, as the PPU reads it (R32, R80). -/
def State.vramByte (s : State) (offset : Nat) : Byte := s.mem.read (0x8000 + offset)

/-! ### The stack -/

/-- `Push16(v)` (R300): the high byte at SP − 1, then the low byte at SP − 2. -/
def State.push16 (s : State) (v : Word) : State :=
  let s1 := s.setSp (s.sp - 1)
  let s2 := s1.memWrite s1.sp (hiByte v)
  let s3 := s2.setSp (s2.sp - 1)
  s3.memWrite s3.sp (loByte v)

/-- `Pop16()` (R301): the low byte at SP, then the high byte at SP + 1. -/
def State.pop16 (s : State) : Word × State :=
  let lo := s.memRead s.sp
  let s1 := s.setSp (s.sp + 1)
  let hi := s1.memRead s1.sp
  let s2 := s1.setSp (s1.sp + 1)
  (wordOf hi lo, s2)

/-! ### Faults and interrupts -/

/-- `raise IllegalInstruction(space, opcode, pc0)` (R125, R400, R401): PC passes the bytes fetched and the record is
written; nothing else changes. -/
def State.raiseIllegal (s : State) (space : Space) (opcode : Byte) (fetched : Nat) : State :=
  (s.setPc (s.pc + BitVec.ofNat 16 fetched)).setFault (some { space := space, opcode := opcode, pc := s.pc })

/-- The fixed vector of the VBlank interrupt (R407). -/
def vblankVector : Word := 0x0040

/-- Taking the VBlank interrupt, in the order of R407: IME, IF bit 0, the push of PC, the jump. -/
def State.dispatchVBlank (s : State) : State :=
  let s1 := s.setIme false
  let s2 := s1.setIfReg (s1.ifReg &&& 0xFE)
  let s3 := s2.push16 s2.pc
  s3.setPc vblankVector

/-- The return from the handler (R277): PC is popped and IME set. -/
def State.returnFromInterrupt (s : State) : State :=
  (s.pop16.2.setPc s.pop16.1).setIme true

/-- What `CYCLES` gives an instruction (R128). -/
def State.cost (s : State) (i : Instr) : Cost := s.params.cycles.cost i

/-- The end of an instruction: Step returns its cost (R124, R128). -/
def State.complete (s : State) (c : Cost) : Result := .next (s.setCycles c.val)

end Sys2Proof.Machine
end

