-- ==== Sys2Proof/Machine/Flags.lean ====
section
/-! DEFINITION. The flags (R22, R23) and every computation that writes them (R201–R208, R234, R235, R252, R341, R343,
R345). -/

namespace Sys2Proof.Machine

def State.flagZ (s : State) : Bool := s.f.getLsbD 7
def State.flagN (s : State) : Bool := s.f.getLsbD 6
def State.flagH (s : State) : Bool := s.f.getLsbD 5
def State.flagC (s : State) : Bool := s.f.getLsbD 4

/-- The byte of F with the given flags: Z N H C in bits 7..4 and bits 3..0 zero (R22, R23). -/
def packFlags (z n h c : Bool) : Byte :=
  (BitVec.ofBool z ++ BitVec.ofBool n ++ BitVec.ofBool h ++ BitVec.ofBool c) ++ (0 : BitVec 4)

/-- `flags(Z <- z, N <- n, H <- h, C <- c)` (R10). A rule that leaves a flag out passes the flag's old value. -/
def State.flags (s : State) (z n h c : Bool) : State := s.setF (packFlags z n h c)

/-- The carry in of ADC, SBC and RL: 0 or 1. -/
def carryIn (c : Bool) : Nat := if c then 1 else 0

/-- The low nibble of a byte as a natural number. -/
def lowNibble (v : Byte) : Nat := (v &&& 0x0F).toNat

/-- The result and the four flags of an 8-bit operation. -/
structure AluResult where
  res : Byte
  z : Bool
  n : Bool
  h : Bool
  c : Bool
deriving DecidableEq, Repr

/-- `alu_add` (R201). -/
def aluAdd (a b : Byte) : AluResult :=
  let res := BitVec.ofNat 8 (a.toNat + b.toNat)
  { res := res, z := decide (res = 0), n := false
    h := decide (lowNibble a + lowNibble b > 0xF), c := decide (a.toNat + b.toNat > 0xFF) }

/-- `alu_adc` (R202). -/
def aluAdc (a b : Byte) (cin : Bool) : AluResult :=
  let res := BitVec.ofNat 8 (a.toNat + b.toNat + carryIn cin)
  { res := res, z := decide (res = 0), n := false
    h := decide (lowNibble a + lowNibble b + carryIn cin > 0xF)
    c := decide (a.toNat + b.toNat + carryIn cin > 0xFF) }

/-- `alu_sub` (R203). -/
def aluSub (a b : Byte) : AluResult :=
  let res := BitVec.ofInt 8 ((a.toNat : Int) - b.toNat)
  { res := res, z := decide (res = 0), n := true
    h := decide (lowNibble a < lowNibble b), c := decide (a.toNat < b.toNat) }

/-- `alu_sbc` (R204). -/
def aluSbc (a b : Byte) (cin : Bool) : AluResult :=
  let res := BitVec.ofInt 8 ((a.toNat : Int) - b.toNat - carryIn cin)
  { res := res, z := decide (res = 0), n := true
    h := decide (lowNibble a < lowNibble b + carryIn cin)
    c := decide (a.toNat < b.toNat + carryIn cin) }

/-- `alu_and` (R205). -/
def aluAnd (a b : Byte) : AluResult :=
  { res := a &&& b, z := decide (a &&& b = 0), n := false, h := true, c := false }

/-- `alu_xor` (R206). -/
def aluXor (a b : Byte) : AluResult :=
  { res := a ^^^ b, z := decide (a ^^^ b = 0), n := false, h := false, c := false }

/-- `alu_or` (R207). -/
def aluOr (a b : Byte) : AluResult :=
  { res := a ||| b, z := decide (a ||| b = 0), n := false, h := false, c := false }

/-- The function of an ALU operation (R101, R201–R208); CP computes SUB. -/
def aluApply (op : AluOp) (a b : Byte) (cin : Bool) : AluResult :=
  match op with
  | .add => aluAdd a b
  | .adc => aluAdc a b cin
  | .sub => aluSub a b
  | .sbc => aluSbc a b cin
  | .and => aluAnd a b
  | .xor => aluXor a b
  | .or => aluOr a b
  | .cp => aluSub a b

/-- `inc8` (R234); the flag C is not computed. -/
def inc8 (v : Byte) : Byte := v + 1

def inc8H (v : Byte) : Bool := decide (lowNibble (inc8 v) = 0)

/-- `dec8` (R235); the flag C is not computed. -/
def dec8 (v : Byte) : Byte := v - 1

def dec8H (v : Byte) : Bool := decide (lowNibble v = 0)

/-- The flags of INC (R234): Z, N = 0, H; C unchanged. -/
def State.incFlags (s : State) (v : Byte) : State :=
  s.flags (decide (inc8 v = 0)) false (inc8H v) s.flagC

/-- The flags of DEC (R235): Z, N = 1, H; C unchanged. -/
def State.decFlags (s : State) (v : Byte) : State :=
  s.flags (decide (dec8 v = 0)) true (dec8H v) s.flagC

/-- The flags of ADD HL,dd (R252): N = 0, H from bit 11, C from bit 15; Z unchanged. -/
def State.add16Flags (s : State) (a b : Word) : State :=
  s.flags s.flagZ false (decide ((a &&& 0xFFF).toNat + (b &&& 0xFFF).toNat > 0xFFF))
    (decide (a.toNat + b.toNat > 0xFFFF))

/-- The result of RL (R341): the old carry enters bit 0. -/
def rl8 (v : Byte) (cin : Bool) : Byte := (v <<< 1) ||| (if cin then 1 else 0)

/-- The flags of RL (R341): Z, N = 0, H = 0, C the old bit 7. -/
def State.rlFlags (s : State) (v : Byte) : State :=
  s.flags (decide (rl8 v s.flagC = 0)) false false (v.getLsbD 7)

/-- The result of SWAP (R343). -/
def swap8 (v : Byte) : Byte := ((v &&& 0x0F) <<< 4) ||| (v >>> 4)

/-- The flags of SWAP (R343): Z; N, H and C cleared. -/
def State.swapFlags (s : State) (v : Byte) : State :=
  s.flags (decide (swap8 v = 0)) false false false

/-- The flags of BIT (R345): Z when the tested bit is 0, N = 0, H = 1; C unchanged. -/
def State.bitFlags (s : State) (b : Fin 8) (v : Byte) : State :=
  s.flags (!v.getLsbD b.val) false true s.flagC

/-- The result of RES (R347). -/
def res8 (b : Fin 8) (v : Byte) : Byte := v &&& ~~~((1 : Byte) <<< b.val)

end Sys2Proof.Machine
end

