-- ==== Sys2Proof/Machine/Operands.lean ====
section
/-! DEFINITION. The operand forms: extensions (R9), the addresses of the high page (R98), relative targets (R99, R271),
restart vectors (R97) and conditions (R270). -/

namespace Sys2Proof.Machine

/-- `zext_16` (R9). -/
def zext16 (v : Byte) : Word := v.setWidth 16

/-- `sext_16` (R9). -/
def sext16 (v : Byte) : Word := v.signExtend 16

/-- The byte at address HL, the operand of code 6 (R92). -/
def State.atHl (s : State) : Byte := s.memRead s.hl

/-- A write of the operand (HL) (R92). -/
def State.setAtHl (s : State) (v : Byte) : State := s.memWrite s.hl v

/-- The high-page address `0xFF00 | offset` (R98). -/
def highPage (offset : Byte) : Word := 0xFF00 ||| zext16 offset

/-- The target of a relative jump from the address of the next instruction (R99, R271). -/
def relativeTarget (next : Word) (e8 : Byte) : Word := next + sext16 e8

/-- The vector of RST t (R97). -/
def restartVector (t : Fin 8) : Word := BitVec.ofNat 16 (t.val * 8)

/-- `cond(cc)` (R270). -/
def State.cond (s : State) : Cond → Bool
  | .nz => !s.flagZ
  | .z => s.flagZ

end Sys2Proof.Machine
end

