-- ==== Sys2Proof/Machine/Alu8.lean ====
section
/-! DEFINITION. The 8-bit ALU instructions (42_alu8.md, R200–R233). The shared operations come first, then the meaning of each row of the table. -/

namespace Sys2Proof.Machine

/-- The effect of an ALU operation with second operand v: A takes the result, but for CP, and all four flags are
written (R200, R208). -/
def State.alu (s : State) (op : AluOp) (v : Byte) : State :=
  let r := aluApply op s.a v s.flagC
  let s1 := match op with
    | .cp => s
    | .add | .adc | .sub | .sbc | .and | .xor | .or => s.setReg .a r.res
  s1.flags r.z r.n r.h r.c

/-- The register form `10ooosss` (R210, R213, R216, R219, R222, R225, R228, R231). -/
def aluReg (op : AluOp) (r : Reg8) (s : State) : Result :=
  (s.alu op (s.reg r)).complete (s.cost (.aluReg op r))

/-- The memory form `10ooo110` (R211, R214, R217, R220, R223, R226, R229, R232). -/
def aluMem (op : AluOp) (s : State) : Result :=
  (s.alu op s.atHl).complete (s.cost (.aluMem op))

/-- The immediate form `11ooo110` (R212, R215, R218, R221, R224, R227, R230, R233). -/
def aluN8 (op : AluOp) (n8 : Byte) (s : State) : Result :=
  (s.alu op n8).complete (s.cost (.aluN8 op n8))

/-! ### The meanings -/

def execAddAB (s : State) : Result := aluReg .add .b s
def execAddAC (s : State) : Result := aluReg .add .c s
def execAddAD (s : State) : Result := aluReg .add .d s
def execAddAE (s : State) : Result := aluReg .add .e s
def execAddAH (s : State) : Result := aluReg .add .h s
def execAddAL (s : State) : Result := aluReg .add .l s
def execAddAAtHl (s : State) : Result := aluMem .add s
def execAddAA (s : State) : Result := aluReg .add .a s
def execAdcAB (s : State) : Result := aluReg .adc .b s
def execAdcAC (s : State) : Result := aluReg .adc .c s
def execAdcAD (s : State) : Result := aluReg .adc .d s
def execAdcAE (s : State) : Result := aluReg .adc .e s
def execAdcAH (s : State) : Result := aluReg .adc .h s
def execAdcAL (s : State) : Result := aluReg .adc .l s
def execAdcAAtHl (s : State) : Result := aluMem .adc s
def execAdcAA (s : State) : Result := aluReg .adc .a s
def execSubB (s : State) : Result := aluReg .sub .b s
def execSubC (s : State) : Result := aluReg .sub .c s
def execSubD (s : State) : Result := aluReg .sub .d s
def execSubE (s : State) : Result := aluReg .sub .e s
def execSubH (s : State) : Result := aluReg .sub .h s
def execSubL (s : State) : Result := aluReg .sub .l s
def execSubAtHl (s : State) : Result := aluMem .sub s
def execSubA (s : State) : Result := aluReg .sub .a s
def execSbcAB (s : State) : Result := aluReg .sbc .b s
def execSbcAC (s : State) : Result := aluReg .sbc .c s
def execSbcAD (s : State) : Result := aluReg .sbc .d s
def execSbcAE (s : State) : Result := aluReg .sbc .e s
def execSbcAH (s : State) : Result := aluReg .sbc .h s
def execSbcAL (s : State) : Result := aluReg .sbc .l s
def execSbcAAtHl (s : State) : Result := aluMem .sbc s
def execSbcAA (s : State) : Result := aluReg .sbc .a s
def execAndB (s : State) : Result := aluReg .and .b s
def execAndC (s : State) : Result := aluReg .and .c s
def execAndD (s : State) : Result := aluReg .and .d s
def execAndE (s : State) : Result := aluReg .and .e s
def execAndH (s : State) : Result := aluReg .and .h s
def execAndL (s : State) : Result := aluReg .and .l s
def execAndAtHl (s : State) : Result := aluMem .and s
def execAndA (s : State) : Result := aluReg .and .a s
def execXorB (s : State) : Result := aluReg .xor .b s
def execXorC (s : State) : Result := aluReg .xor .c s
def execXorD (s : State) : Result := aluReg .xor .d s
def execXorE (s : State) : Result := aluReg .xor .e s
def execXorH (s : State) : Result := aluReg .xor .h s
def execXorL (s : State) : Result := aluReg .xor .l s
def execXorAtHl (s : State) : Result := aluMem .xor s
def execXorA (s : State) : Result := aluReg .xor .a s
def execOrB (s : State) : Result := aluReg .or .b s
def execOrC (s : State) : Result := aluReg .or .c s
def execOrD (s : State) : Result := aluReg .or .d s
def execOrE (s : State) : Result := aluReg .or .e s
def execOrH (s : State) : Result := aluReg .or .h s
def execOrL (s : State) : Result := aluReg .or .l s
def execOrAtHl (s : State) : Result := aluMem .or s
def execOrA (s : State) : Result := aluReg .or .a s
def execCpB (s : State) : Result := aluReg .cp .b s
def execCpC (s : State) : Result := aluReg .cp .c s
def execCpD (s : State) : Result := aluReg .cp .d s
def execCpE (s : State) : Result := aluReg .cp .e s
def execCpH (s : State) : Result := aluReg .cp .h s
def execCpL (s : State) : Result := aluReg .cp .l s
def execCpAtHl (s : State) : Result := aluMem .cp s
def execCpA (s : State) : Result := aluReg .cp .a s
def execAddAN8 (n8 : Byte) (s : State) : Result := aluN8 .add n8 s
def execAdcAN8 (n8 : Byte) (s : State) : Result := aluN8 .adc n8 s
def execSubN8 (n8 : Byte) (s : State) : Result := aluN8 .sub n8 s
def execSbcAN8 (n8 : Byte) (s : State) : Result := aluN8 .sbc n8 s
def execAndN8 (n8 : Byte) (s : State) : Result := aluN8 .and n8 s
def execXorN8 (n8 : Byte) (s : State) : Result := aluN8 .xor n8 s
def execOrN8 (n8 : Byte) (s : State) : Result := aluN8 .or n8 s
def execCpN8 (n8 : Byte) (s : State) : Result := aluN8 .cp n8 s

end Sys2Proof.Machine
end

