-- ==== Sys2Proof/Machine/Arith16.lean ====
section
/-! DEFINITION. 16-bit INC, DEC and ADD HL,dd (43_arith16.md, R250–R252). The shared operations come first, then the meaning of each row of the table. -/

namespace Sys2Proof.Machine

/-- INC dd (R250): no flag is written. -/
def incPair (p : Pair) (s : State) : Result :=
  (s.setPair p (s.pair p + 1)).complete (s.cost (.incPair p))

/-- DEC dd (R251): no flag is written. -/
def decPair (p : Pair) (s : State) : Result :=
  (s.setPair p (s.pair p - 1)).complete (s.cost (.decPair p))

/-- ADD HL,dd (R252): both operands are read before HL is written. -/
def addHlPair (p : Pair) (s : State) : Result :=
  ((s.setPair .hl (s.hl + s.pair p)).add16Flags s.hl (s.pair p)).complete (s.cost (.addHlPair p))

/-! ### The meanings -/

def execIncBc (s : State) : Result := incPair .bc s
def execAddHlBc (s : State) : Result := addHlPair .bc s
def execDecBc (s : State) : Result := decPair .bc s
def execIncDe (s : State) : Result := incPair .de s
def execAddHlDe (s : State) : Result := addHlPair .de s
def execDecDe (s : State) : Result := decPair .de s
def execIncHl (s : State) : Result := incPair .hl s
def execAddHlHl (s : State) : Result := addHlPair .hl s
def execDecHl (s : State) : Result := decPair .hl s
def execIncSp (s : State) : Result := incPair .sp s
def execAddHlSp (s : State) : Result := addHlPair .sp s
def execDecSp (s : State) : Result := decPair .sp s

end Sys2Proof.Machine
end

