-- ==== Sys2Proof/Machine/Control.lean ====
section
/-! DEFINITION. Control transfer (44_control.md, R270–R278). PC is already the address of the next instruction (R13). The shared operations come first, then the meaning of each row of the table. -/

namespace Sys2Proof.Machine

/-- JR e8 (R271). -/
def jr (e8 : Byte) (s : State) : Result :=
  (s.setPc (relativeTarget s.pc e8)).complete (s.cost (.jrE8 e8))

/-- JR cc,e8 (R272), with the cost of R129. -/
def jrCc (cc : Cond) (e8 : Byte) (s : State) : Result :=
  if s.cond cc then (s.setPc (relativeTarget s.pc e8)).complete (s.cost (.jrCc cc e8))
  else s.complete (s.params.cycles.jrNotTaken cc)

/-- JP n16 (R273). -/
def jp (n16 : Word) (s : State) : Result :=
  (s.setPc n16).complete (s.cost (.jpN16 n16))

/-- JP cc,n16 (R274), with the cost of R129. -/
def jpCc (cc : Cond) (n16 : Word) (s : State) : Result :=
  if s.cond cc then (s.setPc n16).complete (s.cost (.jpCc cc n16))
  else s.complete (s.params.cycles.jpNotTaken cc)

/-- CALL n16 (R275). -/
def call (n16 : Word) (s : State) : Result :=
  ((s.push16 s.pc).setPc n16).complete (s.cost (.callN16 n16))

/-- RET (R276). -/
def ret (s : State) : Result :=
  (s.pop16.2.setPc s.pop16.1).complete (s.cost .ret)

/-- RETI (R277). -/
def reti (s : State) : Result :=
  s.returnFromInterrupt.complete (s.cost .reti)

/-- RST t (R278). -/
def rst (t : Fin 8) (s : State) : Result :=
  ((s.push16 s.pc).setPc (restartVector t)).complete (s.cost (.rst t))

/-! ### The meanings -/

def execJrE8 (e8 : Byte) (s : State) : Result := jr e8 s
def execJrNzE8 (e8 : Byte) (s : State) : Result := jrCc .nz e8 s
def execJrZE8 (e8 : Byte) (s : State) : Result := jrCc .z e8 s
def execJpNzN16 (n16 : Word) (s : State) : Result := jpCc .nz n16 s
def execJpN16 (n16 : Word) (s : State) : Result := jp n16 s
def execRst00 (s : State) : Result := rst 0 s
def execRet (s : State) : Result := ret s
def execJpZN16 (n16 : Word) (s : State) : Result := jpCc .z n16 s
def execCallN16 (n16 : Word) (s : State) : Result := call n16 s
def execRst08 (s : State) : Result := rst 1 s
def execRst10 (s : State) : Result := rst 2 s
def execReti (s : State) : Result := reti s
def execRst18 (s : State) : Result := rst 3 s
def execRst20 (s : State) : Result := rst 4 s
def execRst28 (s : State) : Result := rst 5 s
def execRst30 (s : State) : Result := rst 6 s
def execRst38 (s : State) : Result := rst 7 s

end Sys2Proof.Machine
end

