-- ==== Sys2Proof/Machine/Extended.lean ====
section
/-! DEFINITION. The extended operations RL, SWAP, BIT and RES (47_extended.md, R340–R348). The shared operations come first, then the meaning of each row of the table. -/

namespace Sys2Proof.Machine

/-- RL r (R341). -/
def rlReg (r : Reg8) (s : State) : Result :=
  ((s.setReg r (rl8 (s.reg r) s.flagC)).rlFlags (s.reg r)).complete (s.cost (.rlReg r))

/-- RL (HL) (R342). -/
def rlMem (s : State) : Result :=
  ((s.setAtHl (rl8 s.atHl s.flagC)).rlFlags s.atHl).complete (s.cost .rlAtHl)

/-- SWAP r (R343). -/
def swapReg (r : Reg8) (s : State) : Result :=
  ((s.setReg r (swap8 (s.reg r))).swapFlags (s.reg r)).complete (s.cost (.swapReg r))

/-- SWAP (HL) (R344). -/
def swapMem (s : State) : Result :=
  ((s.setAtHl (swap8 s.atHl)).swapFlags s.atHl).complete (s.cost .swapAtHl)

/-- BIT b,r (R345). -/
def bitReg (b : Fin 8) (r : Reg8) (s : State) : Result :=
  (s.bitFlags b (s.reg r)).complete (s.cost (.bitReg b r))

/-- BIT b,(HL) (R346). -/
def bitMem (b : Fin 8) (s : State) : Result :=
  (s.bitFlags b s.atHl).complete (s.cost (.bitMem b))

/-- RES b,r (R347): no flag is written. -/
def resReg (b : Fin 8) (r : Reg8) (s : State) : Result :=
  (s.setReg r (res8 b (s.reg r))).complete (s.cost (.resReg b r))

/-- RES b,(HL) (R348): no flag is written. -/
def resMem (b : Fin 8) (s : State) : Result :=
  (s.setAtHl (res8 b s.atHl)).complete (s.cost (.resMem b))

/-! ### The meanings -/

def execRlB (s : State) : Result := rlReg .b s
def execRlC (s : State) : Result := rlReg .c s
def execRlD (s : State) : Result := rlReg .d s
def execRlE (s : State) : Result := rlReg .e s
def execRlH (s : State) : Result := rlReg .h s
def execRlL (s : State) : Result := rlReg .l s
def execRlAtHl (s : State) : Result := rlMem s
def execRlA (s : State) : Result := rlReg .a s
def execSwapB (s : State) : Result := swapReg .b s
def execSwapC (s : State) : Result := swapReg .c s
def execSwapD (s : State) : Result := swapReg .d s
def execSwapE (s : State) : Result := swapReg .e s
def execSwapH (s : State) : Result := swapReg .h s
def execSwapL (s : State) : Result := swapReg .l s
def execSwapAtHl (s : State) : Result := swapMem s
def execSwapA (s : State) : Result := swapReg .a s
def execBit0B (s : State) : Result := bitReg 0 .b s
def execBit0C (s : State) : Result := bitReg 0 .c s
def execBit0D (s : State) : Result := bitReg 0 .d s
def execBit0E (s : State) : Result := bitReg 0 .e s
def execBit0H (s : State) : Result := bitReg 0 .h s
def execBit0L (s : State) : Result := bitReg 0 .l s
def execBit0AtHl (s : State) : Result := bitMem 0 s
def execBit0A (s : State) : Result := bitReg 0 .a s
def execBit1B (s : State) : Result := bitReg 1 .b s
def execBit1C (s : State) : Result := bitReg 1 .c s
def execBit1D (s : State) : Result := bitReg 1 .d s
def execBit1E (s : State) : Result := bitReg 1 .e s
def execBit1H (s : State) : Result := bitReg 1 .h s
def execBit1L (s : State) : Result := bitReg 1 .l s
def execBit1AtHl (s : State) : Result := bitMem 1 s
def execBit1A (s : State) : Result := bitReg 1 .a s
def execBit2B (s : State) : Result := bitReg 2 .b s
def execBit2C (s : State) : Result := bitReg 2 .c s
def execBit2D (s : State) : Result := bitReg 2 .d s
def execBit2E (s : State) : Result := bitReg 2 .e s
def execBit2H (s : State) : Result := bitReg 2 .h s
def execBit2L (s : State) : Result := bitReg 2 .l s
def execBit2AtHl (s : State) : Result := bitMem 2 s
def execBit2A (s : State) : Result := bitReg 2 .a s
def execBit3B (s : State) : Result := bitReg 3 .b s
def execBit3C (s : State) : Result := bitReg 3 .c s
def execBit3D (s : State) : Result := bitReg 3 .d s
def execBit3E (s : State) : Result := bitReg 3 .e s
def execBit3H (s : State) : Result := bitReg 3 .h s
def execBit3L (s : State) : Result := bitReg 3 .l s
def execBit3AtHl (s : State) : Result := bitMem 3 s
def execBit3A (s : State) : Result := bitReg 3 .a s
def execBit4B (s : State) : Result := bitReg 4 .b s
def execBit4C (s : State) : Result := bitReg 4 .c s
def execBit4D (s : State) : Result := bitReg 4 .d s
def execBit4E (s : State) : Result := bitReg 4 .e s
def execBit4H (s : State) : Result := bitReg 4 .h s
def execBit4L (s : State) : Result := bitReg 4 .l s
def execBit4AtHl (s : State) : Result := bitMem 4 s
def execBit4A (s : State) : Result := bitReg 4 .a s
def execBit5B (s : State) : Result := bitReg 5 .b s
def execBit5C (s : State) : Result := bitReg 5 .c s
def execBit5D (s : State) : Result := bitReg 5 .d s
def execBit5E (s : State) : Result := bitReg 5 .e s
def execBit5H (s : State) : Result := bitReg 5 .h s
def execBit5L (s : State) : Result := bitReg 5 .l s
def execBit5AtHl (s : State) : Result := bitMem 5 s
def execBit5A (s : State) : Result := bitReg 5 .a s
def execBit6B (s : State) : Result := bitReg 6 .b s
def execBit6C (s : State) : Result := bitReg 6 .c s
def execBit6D (s : State) : Result := bitReg 6 .d s
def execBit6E (s : State) : Result := bitReg 6 .e s
def execBit6H (s : State) : Result := bitReg 6 .h s
def execBit6L (s : State) : Result := bitReg 6 .l s
def execBit6AtHl (s : State) : Result := bitMem 6 s
def execBit6A (s : State) : Result := bitReg 6 .a s
def execBit7B (s : State) : Result := bitReg 7 .b s
def execBit7C (s : State) : Result := bitReg 7 .c s
def execBit7D (s : State) : Result := bitReg 7 .d s
def execBit7E (s : State) : Result := bitReg 7 .e s
def execBit7H (s : State) : Result := bitReg 7 .h s
def execBit7L (s : State) : Result := bitReg 7 .l s
def execBit7AtHl (s : State) : Result := bitMem 7 s
def execBit7A (s : State) : Result := bitReg 7 .a s
def execRes0B (s : State) : Result := resReg 0 .b s
def execRes0C (s : State) : Result := resReg 0 .c s
def execRes0D (s : State) : Result := resReg 0 .d s
def execRes0E (s : State) : Result := resReg 0 .e s
def execRes0H (s : State) : Result := resReg 0 .h s
def execRes0L (s : State) : Result := resReg 0 .l s
def execRes0AtHl (s : State) : Result := resMem 0 s
def execRes0A (s : State) : Result := resReg 0 .a s
def execRes1B (s : State) : Result := resReg 1 .b s
def execRes1C (s : State) : Result := resReg 1 .c s
def execRes1D (s : State) : Result := resReg 1 .d s
def execRes1E (s : State) : Result := resReg 1 .e s
def execRes1H (s : State) : Result := resReg 1 .h s
def execRes1L (s : State) : Result := resReg 1 .l s
def execRes1AtHl (s : State) : Result := resMem 1 s
def execRes1A (s : State) : Result := resReg 1 .a s
def execRes2B (s : State) : Result := resReg 2 .b s
def execRes2C (s : State) : Result := resReg 2 .c s
def execRes2D (s : State) : Result := resReg 2 .d s
def execRes2E (s : State) : Result := resReg 2 .e s
def execRes2H (s : State) : Result := resReg 2 .h s
def execRes2L (s : State) : Result := resReg 2 .l s
def execRes2AtHl (s : State) : Result := resMem 2 s
def execRes2A (s : State) : Result := resReg 2 .a s
def execRes3B (s : State) : Result := resReg 3 .b s
def execRes3C (s : State) : Result := resReg 3 .c s
def execRes3D (s : State) : Result := resReg 3 .d s
def execRes3E (s : State) : Result := resReg 3 .e s
def execRes3H (s : State) : Result := resReg 3 .h s
def execRes3L (s : State) : Result := resReg 3 .l s
def execRes3AtHl (s : State) : Result := resMem 3 s
def execRes3A (s : State) : Result := resReg 3 .a s
def execRes4B (s : State) : Result := resReg 4 .b s
def execRes4C (s : State) : Result := resReg 4 .c s
def execRes4D (s : State) : Result := resReg 4 .d s
def execRes4E (s : State) : Result := resReg 4 .e s
def execRes4H (s : State) : Result := resReg 4 .h s
def execRes4L (s : State) : Result := resReg 4 .l s
def execRes4AtHl (s : State) : Result := resMem 4 s
def execRes4A (s : State) : Result := resReg 4 .a s
def execRes5B (s : State) : Result := resReg 5 .b s
def execRes5C (s : State) : Result := resReg 5 .c s
def execRes5D (s : State) : Result := resReg 5 .d s
def execRes5E (s : State) : Result := resReg 5 .e s
def execRes5H (s : State) : Result := resReg 5 .h s
def execRes5L (s : State) : Result := resReg 5 .l s
def execRes5AtHl (s : State) : Result := resMem 5 s
def execRes5A (s : State) : Result := resReg 5 .a s
def execRes6B (s : State) : Result := resReg 6 .b s
def execRes6C (s : State) : Result := resReg 6 .c s
def execRes6D (s : State) : Result := resReg 6 .d s
def execRes6E (s : State) : Result := resReg 6 .e s
def execRes6H (s : State) : Result := resReg 6 .h s
def execRes6L (s : State) : Result := resReg 6 .l s
def execRes6AtHl (s : State) : Result := resMem 6 s
def execRes6A (s : State) : Result := resReg 6 .a s
def execRes7B (s : State) : Result := resReg 7 .b s
def execRes7C (s : State) : Result := resReg 7 .c s
def execRes7D (s : State) : Result := resReg 7 .d s
def execRes7E (s : State) : Result := resReg 7 .e s
def execRes7H (s : State) : Result := resReg 7 .h s
def execRes7L (s : State) : Result := resReg 7 .l s
def execRes7AtHl (s : State) : Result := resMem 7 s
def execRes7A (s : State) : Result := resReg 7 .a s

end Sys2Proof.Machine
end

