-- ==== Sys2Proof/Machine/IncDec8.lean ====
section
/-! DEFINITION. 8-bit INC and DEC (R234–R239): flag C is never written. The shared operations come first, then the meaning of each row of the table. -/

namespace Sys2Proof.Machine

/-- INC r (R236). -/
def incReg (r : Reg8) (s : State) : Result :=
  ((s.setReg r (inc8 (s.reg r))).incFlags (s.reg r)).complete (s.cost (.incReg r))

/-- INC (HL) (R237): one read, then one write. -/
def incMem (s : State) : Result :=
  ((s.setAtHl (inc8 s.atHl)).incFlags s.atHl).complete (s.cost .incAtHl)

/-- DEC r (R238). -/
def decReg (r : Reg8) (s : State) : Result :=
  ((s.setReg r (dec8 (s.reg r))).decFlags (s.reg r)).complete (s.cost (.decReg r))

/-- DEC (HL) (R239): one read, then one write. -/
def decMem (s : State) : Result :=
  ((s.setAtHl (dec8 s.atHl)).decFlags s.atHl).complete (s.cost .decAtHl)

/-! ### The meanings -/

def execIncB (s : State) : Result := incReg .b s
def execDecB (s : State) : Result := decReg .b s
def execIncC (s : State) : Result := incReg .c s
def execDecC (s : State) : Result := decReg .c s
def execIncD (s : State) : Result := incReg .d s
def execDecD (s : State) : Result := decReg .d s
def execIncE (s : State) : Result := incReg .e s
def execDecE (s : State) : Result := decReg .e s
def execIncH (s : State) : Result := incReg .h s
def execDecH (s : State) : Result := decReg .h s
def execIncL (s : State) : Result := incReg .l s
def execDecL (s : State) : Result := decReg .l s
def execIncAtHl (s : State) : Result := incMem s
def execDecAtHl (s : State) : Result := decMem s
def execIncA (s : State) : Result := incReg .a s
def execDecA (s : State) : Result := decReg .a s

end Sys2Proof.Machine
end

