-- ==== Sys2Proof/Machine/Loads.lean ====
section
/-! DEFINITION. The 8-bit and 16-bit loads (41_loads.md): no load writes a flag. The shared operations come first, then the meaning of each row of the table. -/

namespace Sys2Proof.Machine

/-- LD d,s (R150): `x[d] <- x[s]`. -/
def ldReg (rd rs : Reg8) (s : State) : Result :=
  (s.setReg rd (s.reg rs)).complete (s.cost (.ldReg rd rs))

/-- LD d,(HL) (R151): `x[d] <- MemRead(HL, 1)`. -/
def ldRegMem (rd : Reg8) (s : State) : Result :=
  (s.setReg rd s.atHl).complete (s.cost (.ldRegMem rd))

/-- LD (HL),s (R152): `MemWrite(HL, 1, x[s])`. -/
def ldMemReg (r : Reg8) (s : State) : Result :=
  (s.setAtHl (s.reg r)).complete (s.cost (.ldMemReg r))

/-- LD r,n8 (R153): `x[r] <- n8`. -/
def ldRegN8 (rd : Reg8) (n8 : Byte) (s : State) : Result :=
  (s.setReg rd n8).complete (s.cost (.ldRegN8 rd n8))

/-- LD (HL),n8 (R154): `MemWrite(HL, 1, n8)`. -/
def ldMemN8 (n8 : Byte) (s : State) : Result :=
  (s.setAtHl n8).complete (s.cost (.ldAtHlN8 n8))

/-- `A <- MemRead(addr, 1)`, the loads of R155, R156, R164, R166 and R168. -/
def loadA (addr : Word) (s : State) (c : Cost) : Result :=
  (s.setReg .a (s.memRead addr)).complete c

/-- `MemWrite(addr, 1, A)`, the stores of R157, R158, R163, R165 and R167. -/
def storeA (addr : Word) (s : State) (c : Cost) : Result :=
  (s.memWrite addr s.a).complete c

/-- LD A,(BC) (R155). -/
def ldAFromBc (s : State) : Result := loadA (s.pair .bc) s (s.cost .ldAAtBc)

/-- LD A,(DE) (R156). -/
def ldAFromDe (s : State) : Result := loadA (s.pair .de) s (s.cost .ldAAtDe)

/-- LD (BC),A (R157). -/
def ldBcFromA (s : State) : Result := storeA (s.pair .bc) s (s.cost .ldAtBcA)

/-- LD (DE),A (R158). -/
def ldDeFromA (s : State) : Result := storeA (s.pair .de) s (s.cost .ldAtDeA)

/-- LD (HL+),A (R159): the store uses the old HL, then HL is incremented. -/
def ldHliFromA (s : State) : Result :=
  ((s.setAtHl s.a).setPair .hl (s.hl + 1)).complete (s.cost .ldAtHliA)

/-- LD (HL-),A (R160): the store uses the old HL, then HL is decremented. -/
def ldHldFromA (s : State) : Result :=
  ((s.setAtHl s.a).setPair .hl (s.hl - 1)).complete (s.cost .ldAtHldA)

/-- LD A,(HL+) (R161): the load uses the old HL, then HL is incremented. -/
def ldAFromHli (s : State) : Result :=
  ((s.setReg .a s.atHl).setPair .hl (s.hl + 1)).complete (s.cost .ldAAtHli)

/-- LD A,(HL-) (R162): the load uses the old HL, then HL is decremented. -/
def ldAFromHld (s : State) : Result :=
  ((s.setReg .a s.atHl).setPair .hl (s.hl - 1)).complete (s.cost .ldAAtHld)

/-- LDH (n8),A (R163). -/
def ldhN8FromA (n8 : Byte) (s : State) : Result := storeA (highPage n8) s (s.cost (.ldhAtN8A n8))

/-- LDH A,(n8) (R164). -/
def ldhAFromN8 (n8 : Byte) (s : State) : Result := loadA (highPage n8) s (s.cost (.ldhAAtN8 n8))

/-- LD (C),A (R165). -/
def ldCFromA (s : State) : Result := storeA (highPage s.c) s (s.cost .ldAtCA)

/-- LD A,(C) (R166). -/
def ldAFromC (s : State) : Result := loadA (highPage s.c) s (s.cost .ldAAtC)

/-- LD (n16),A (R167). -/
def ldN16FromA (n16 : Word) (s : State) : Result := storeA n16 s (s.cost (.ldAtN16A n16))

/-- LD A,(n16) (R168). -/
def ldAFromN16 (n16 : Word) (s : State) : Result := loadA n16 s (s.cost (.ldAAtN16 n16))

/-- LD dd,n16 (R169). -/
def ldPairN16 (p : Pair) (n16 : Word) (s : State) : Result :=
  (s.setPair p n16).complete (s.cost (.ldPairN16 p n16))

/-! ### The meanings -/

def execLdBcN16 (n16 : Word) (s : State) : Result := ldPairN16 .bc n16 s
def execLdAtBcA (s : State) : Result := ldBcFromA s
def execLdBN8 (n8 : Byte) (s : State) : Result := ldRegN8 .b n8 s
def execLdAAtBc (s : State) : Result := ldAFromBc s
def execLdCN8 (n8 : Byte) (s : State) : Result := ldRegN8 .c n8 s
def execLdDeN16 (n16 : Word) (s : State) : Result := ldPairN16 .de n16 s
def execLdAtDeA (s : State) : Result := ldDeFromA s
def execLdDN8 (n8 : Byte) (s : State) : Result := ldRegN8 .d n8 s
def execLdAAtDe (s : State) : Result := ldAFromDe s
def execLdEN8 (n8 : Byte) (s : State) : Result := ldRegN8 .e n8 s
def execLdHlN16 (n16 : Word) (s : State) : Result := ldPairN16 .hl n16 s
def execLdAtHliA (s : State) : Result := ldHliFromA s
def execLdHN8 (n8 : Byte) (s : State) : Result := ldRegN8 .h n8 s
def execLdAAtHli (s : State) : Result := ldAFromHli s
def execLdLN8 (n8 : Byte) (s : State) : Result := ldRegN8 .l n8 s
def execLdSpN16 (n16 : Word) (s : State) : Result := ldPairN16 .sp n16 s
def execLdAtHldA (s : State) : Result := ldHldFromA s
def execLdAtHlN8 (n8 : Byte) (s : State) : Result := ldMemN8 n8 s
def execLdAAtHld (s : State) : Result := ldAFromHld s
def execLdAN8 (n8 : Byte) (s : State) : Result := ldRegN8 .a n8 s
def execLdBB (s : State) : Result := ldReg .b .b s
def execLdBC (s : State) : Result := ldReg .b .c s
def execLdBD (s : State) : Result := ldReg .b .d s
def execLdBE (s : State) : Result := ldReg .b .e s
def execLdBH (s : State) : Result := ldReg .b .h s
def execLdBL (s : State) : Result := ldReg .b .l s
def execLdBAtHl (s : State) : Result := ldRegMem .b s
def execLdBA (s : State) : Result := ldReg .b .a s
def execLdCB (s : State) : Result := ldReg .c .b s
def execLdCC (s : State) : Result := ldReg .c .c s
def execLdCD (s : State) : Result := ldReg .c .d s
def execLdCE (s : State) : Result := ldReg .c .e s
def execLdCH (s : State) : Result := ldReg .c .h s
def execLdCL (s : State) : Result := ldReg .c .l s
def execLdCAtHl (s : State) : Result := ldRegMem .c s
def execLdCA (s : State) : Result := ldReg .c .a s
def execLdDB (s : State) : Result := ldReg .d .b s
def execLdDC (s : State) : Result := ldReg .d .c s
def execLdDD (s : State) : Result := ldReg .d .d s
def execLdDE (s : State) : Result := ldReg .d .e s
def execLdDH (s : State) : Result := ldReg .d .h s
def execLdDL (s : State) : Result := ldReg .d .l s
def execLdDAtHl (s : State) : Result := ldRegMem .d s
def execLdDA (s : State) : Result := ldReg .d .a s
def execLdEB (s : State) : Result := ldReg .e .b s
def execLdEC (s : State) : Result := ldReg .e .c s
def execLdED (s : State) : Result := ldReg .e .d s
def execLdEE (s : State) : Result := ldReg .e .e s
def execLdEH (s : State) : Result := ldReg .e .h s
def execLdEL (s : State) : Result := ldReg .e .l s
def execLdEAtHl (s : State) : Result := ldRegMem .e s
def execLdEA (s : State) : Result := ldReg .e .a s
def execLdHB (s : State) : Result := ldReg .h .b s
def execLdHC (s : State) : Result := ldReg .h .c s
def execLdHD (s : State) : Result := ldReg .h .d s
def execLdHE (s : State) : Result := ldReg .h .e s
def execLdHH (s : State) : Result := ldReg .h .h s
def execLdHL (s : State) : Result := ldReg .h .l s
def execLdHAtHl (s : State) : Result := ldRegMem .h s
def execLdHA (s : State) : Result := ldReg .h .a s
def execLdLB (s : State) : Result := ldReg .l .b s
def execLdLC (s : State) : Result := ldReg .l .c s
def execLdLD (s : State) : Result := ldReg .l .d s
def execLdLE (s : State) : Result := ldReg .l .e s
def execLdLH (s : State) : Result := ldReg .l .h s
def execLdLL (s : State) : Result := ldReg .l .l s
def execLdLAtHl (s : State) : Result := ldRegMem .l s
def execLdLA (s : State) : Result := ldReg .l .a s
def execLdAtHlB (s : State) : Result := ldMemReg .b s
def execLdAtHlC (s : State) : Result := ldMemReg .c s
def execLdAtHlD (s : State) : Result := ldMemReg .d s
def execLdAtHlE (s : State) : Result := ldMemReg .e s
def execLdAtHlH (s : State) : Result := ldMemReg .h s
def execLdAtHlL (s : State) : Result := ldMemReg .l s
def execLdAtHlA (s : State) : Result := ldMemReg .a s
def execLdAB (s : State) : Result := ldReg .a .b s
def execLdAC (s : State) : Result := ldReg .a .c s
def execLdAD (s : State) : Result := ldReg .a .d s
def execLdAE (s : State) : Result := ldReg .a .e s
def execLdAH (s : State) : Result := ldReg .a .h s
def execLdAL (s : State) : Result := ldReg .a .l s
def execLdAAtHl (s : State) : Result := ldRegMem .a s
def execLdAA (s : State) : Result := ldReg .a .a s
def execLdhAtN8A (n8 : Byte) (s : State) : Result := ldhN8FromA n8 s
def execLdAtCA (s : State) : Result := ldCFromA s
def execLdAtN16A (n16 : Word) (s : State) : Result := ldN16FromA n16 s
def execLdhAAtN8 (n8 : Byte) (s : State) : Result := ldhAFromN8 n8 s
def execLdAAtC (s : State) : Result := ldAFromC s
def execLdAAtN16 (n16 : Word) (s : State) : Result := ldAFromN16 n16 s

end Sys2Proof.Machine
end

