-- ==== Sys2Proof/Machine/Misc.lean ====
section
/-! DEFINITION. NOP, HALT, DI and EI (46_misc.md, R320–R323). The shared operations come first, then the meaning of each row of the table. -/

namespace Sys2Proof.Machine

/-- NOP (R320). -/
def nop (s : State) : Result := s.complete (s.cost .nop)

/-- HALT (R321). -/
def halt (s : State) : Result := (s.setHalted true).complete (s.cost .halt)

/-- DI (R322). -/
def di (s : State) : Result := (s.setIme false).complete (s.cost .di)

/-- EI (R323): at once, with no delay. -/
def ei (s : State) : Result := (s.setIme true).complete (s.cost .ei)

/-! ### The meanings -/

def execNop (s : State) : Result := nop s
def execHalt (s : State) : Result := halt s
def execDi (s : State) : Result := di s
def execEi (s : State) : Result := ei s

end Sys2Proof.Machine
end

