-- ==== Sys2Proof/Machine/Stack.lean ====
section
/-! DEFINITION. PUSH and POP (45_stack.md, R302–R305). The shared operations come first, then the meaning of each row of the table. -/

namespace Sys2Proof.Machine

/-- PUSH qq (R302, R303). -/
def push (q : StackPair) (s : State) : Result :=
  (s.push16 (s.stackPair q)).complete (s.cost (.push q))

/-- POP qq (R304, R305). -/
def pop (q : StackPair) (s : State) : Result :=
  (s.pop16.2.setStackPair q s.pop16.1).complete (s.cost (.pop q))

/-! ### The meanings -/

def execPopBc (s : State) : Result := pop .bc s
def execPushBc (s : State) : Result := push .bc s
def execPopDe (s : State) : Result := pop .de s
def execPushDe (s : State) : Result := push .de s
def execPopHl (s : State) : Result := pop .hl s
def execPushHl (s : State) : Result := push .hl s
def execPopAf (s : State) : Result := pop .af s
def execPushAf (s : State) : Result := push .af s

end Sys2Proof.Machine
end

