-- ==== Sys2Proof/Machine/Interrupts.lean ====
section
/-! DEFINITION. The interrupt controller, `HandleInterrupts` (R404–R409). -/

namespace Sys2Proof.Machine

/-- `pending`: IF & IE, all 8 bits (R404). -/
def State.pending (s : State) : Byte := s.ifReg &&& s.ieReg

/-- The wake from HALT, whatever IME is (R405). -/
def State.wake (s : State) : State :=
  if s.pending ≠ 0 ∧ s.halted = true then s.setHalted false else s

/-- `HandleInterrupts()` (R404): the wake, then at most one dispatch; `extra` takes the number it returns. -/
def State.handleInterrupts (s : State) : State :=
  let s1 := s.wake
  if s1.ime = false ∨ s1.pending = 0 then s1.setExtra 0
  else if s1.pending.getLsbD 0 then s1.dispatchVBlank.setExtra dispatchCycles
  else s1.setExtra 0

end Sys2Proof.Machine
end

