-- ==== Sys2Proof/Machine/Ppu.lean ====
section
/-! DEFINITION. The PPU: tiles, the scanline renderer and the buffer swap (R374–R383). -/

namespace Sys2Proof.Machine

/-- Rows of the screen, 0..143 (R6). -/
def visibleLines : Nat := 144

/-- The size of VRAM (R32). -/
def vramSize : Int := 0x2000

/-- Where a tile starts in VRAM (R374): unsigned from 0x0000 when LCDC bit 4 is set or LCDC is 0, otherwise signed from
0x1000. -/
def tileStart (lcdc index : Byte) : Int :=
  if lcdc.getLsbD 4 || decide (lcdc = 0) then (index.toNat : Int) * 16 else 0x1000 + index.toInt * 16

/-- `getTile` (R374, R375): 16 bytes of VRAM, or a blank tile when they do not all lie in VRAM. -/
def State.getTile (s : State) (lcdc index : Byte) : List Byte :=
  let start := tileStart lcdc index
  if start < 0 ∨ start + 16 > vramSize then List.replicate 16 0
  else (List.range 16).map fun k => s.vramByte (start.toNat + k)

/-- `pixel(t, row, col)` (R376): the bit of the high plane, then the bit of the low plane. -/
def tilePixel (tile : List Byte) (row col : Nat) : Pixel :=
  BitVec.ofBool ((tile.getD (2 * row + 1) 0).getLsbD (7 - col)) ++
    BitVec.ofBool ((tile.getD (2 * row) 0).getLsbD (7 - col))

/-- The start of the background map in VRAM (R379). -/
def mapBase (lcdc : Byte) : Nat := if lcdc.getLsbD 3 then 0x1C00 else 0x1800

/-- The tile index of the map at a tile row and column (R380). -/
def State.mapIndex (s : State) (lcdc : Byte) (tileRow col : Nat) : Byte :=
  s.vramByte (mapBase lcdc + tileRow * 32 + col)

/-- The 160 pixels of a scanline (R380): pixel x is column x % 8 of the tile of map column x / 8. -/
def State.scanline (s : State) (ly : Nat) : Vector Pixel 160 :=
  Vector.ofFn fun x =>
    tilePixel (s.getTile s.lcdc (s.mapIndex s.lcdc (ly / 8) (x.val / 8))) (ly % 8) (x.val % 8)

/-- `RenderScanline(ly)` (R378, R380): one row of the back buffer, or nothing while the LCD is off. -/
def State.renderScanline (s : State) (ly : Nat) : State :=
  if s.lcdc.getLsbD 7 = false ∨ ly ≥ visibleLines then s
  else s.setBack (s.back.setIfInBounds ly (s.scanline ly))

/-- `SwapBuffers()` (R381). -/
def State.swapBuffers (s : State) : State := s.setFront s.back

end Sys2Proof.Machine
end

