-- ==== Sys2Proof/Machine/Timer.lean ====
section
/-! DEFINITION. The scanline timer, `UpdateScanline` (R370–R373). -/

namespace Sys2Proof.Machine

/-- Cycles of one scanline (R6). -/
def cyclesPerLine : Nat := 456

/-- The VBlank request: IF bit 0 is set (R372). -/
def State.requestVBlank (s : State) : State := s.setIfReg (s.ifReg ||| 0x01)

/-- A visible line is rendered before LY moves on (R370, R371). -/
def State.renderVisible (s : State) : State := if s.ly.toNat < 144 then s.renderScanline s.ly.toNat else s

/-- LY moves on (R370). -/
def State.advanceLine (s : State) : State := s.setLy (s.ly + 1)

/-- VBlank entry: the swap, then the request (R372). -/
def State.enterVBlank (s : State) : State := if s.ly = 144 then s.swapBuffers.requestVBlank else s

/-- LY wraps after 153 (R370). -/
def State.wrapLine (s : State) : State := if s.ly.toNat > 153 then s.setLy 0 else s

/-- What happens at a line boundary, in the order of R370. -/
def State.lineBoundary (s : State) : State := s.renderVisible.advanceLine.enterVBlank.wrapLine

/-- `UpdateScanline(c)` (R370): one subtraction per call. -/
def State.updateScanline (s : State) (c : Nat) : State :=
  if s.acc + c ≥ cyclesPerLine then (s.setAcc (s.acc + c - cyclesPerLine)).lineBoundary else s.setAcc (s.acc + c)

end Sys2Proof.Machine
end

