-- ==== Sys2Proof/Machine/Iteration.lean ====
section
/-! DEFINITION. The parts of an iteration around an instruction (R121–R127): the fetch, the halted Step, and what follows
a Step. -/

namespace Sys2Proof.Machine

/-- The fetch and lookup of R122–R124: the bytes at PC, read through the decoder. -/
def State.fetch (s : State) : Decoded :=
  decode s.params.admitInferred (s.memRead s.pc) (s.memRead (s.pc + 1)) (s.memRead (s.pc + 2))

/-- PC after the opcode and operand bytes of an instruction (R124). -/
def State.advancePc (s : State) (length : Nat) : State := s.setPc (s.pc + BitVec.ofNat 16 length)

/-- `Step()` of a halted CPU (R121): 4 cycles and nothing else. -/
def State.haltedStep (s : State) : State := s.setCycles haltedCycles

/-- The rest of the iteration (R126): the timer takes the cycles Step returned, then the interrupt controller runs. -/
def State.finishIteration (s : State) : State := (s.updateScanline s.cycles).handleInterrupts

/-- Whether the three bytes from PC on all have storage behind them. -/
def State.placeable (s : State) : Bool :=
  (regionOf s.pc).stored && (regionOf (s.pc + 1)).stored && (regionOf (s.pc + 2)).stored

/-- Store three bytes from PC on, as a loader does: ROM included. -/
def State.placeAtPc (s : State) (bytes : List Byte) : State :=
  s.setMem (((s.mem.write s.pc.toNat (bytes.getD 0 0)).write (s.pc + 1).toNat (bytes.getD 1 0)).write
    (s.pc + 2).toNat (bytes.getD 2 0))

/-- The state made ready to fetch: running, awake, and with a PC where bytes can be placed, 0x0100 in ROM where its own
is not (log 10). -/
def State.readyToFetch (s : State) : State :=
  let s1 := (s.setFault none).setHalted false
  if s1.placeable then s1 else s1.setPc 0x0100

end Sys2Proof.Machine
end

