-- ==== Sys2Proof/Machine/Step.lean ====
section
/-! DEFINITION. One step of the block: one iteration of the driving loop (R3, R126). -/

namespace Sys2Proof.Machine

/-- `Iterate()` (R126): Step, then UpdateScanline, then HandleInterrupts. A decode fault ends the iteration with the
record in the state (R400); a block that is already faulted takes no step (R120). -/
def step (s : State) : Host.Outcome State Fault Refusal :=
  match s.fault with
  | some record => .fault (.illegalInstruction record)
  | none =>
    if s.halted then .next s.haltedStep.finishIteration
    else
      match s.fetch with
      | .illegal space opcode fetched => .next (s.raiseIllegal space opcode fetched)
      | .instr i length =>
        match exec i (s.advancePc length) with
        | .next t => .next t.finishIteration
        | .fault r => .fault r
        | .refused r => .refused r

/-- The state whose next step fetches and runs the instruction of a table word: the word's bytes are stored at PC, where
the fetch reads them (log 9, log 10). -/
def State.withFetchWord (s : State) (nbits w : Nat) : State :=
  s.readyToFetch.placeAtPc (tableBytes nbits w)

end Sys2Proof.Machine
end

