-- ==== Sys2Proof/Machine/Reset.lean ====
section
/-! DEFINITION. The host's reset (R440) with its OPEN inputs as arguments (D2, D3, D5). -/

namespace Sys2Proof.Machine

/-- The OPEN inputs of Reset beside the ROM image: `RESET_REGS`, `RESET_PC` and `RESET_MEM` (R7, R44). -/
structure ResetValues where
  a : Byte
  f : Byte
  b : Byte
  c : Byte
  d : Byte
  e : Byte
  h : Byte
  l : Byte
  sp : Word
  pc : Word
  /-- `RESET_MEM`: the bytes of VRAM, work RAM, OAM, I/O, high RAM and IE, by address; entries elsewhere are ignored. -/
  ram : Memory
deriving DecidableEq, Repr

/-- A list of bytes from an address on, as memory in canonical form. -/
def imageFrom (start : Nat) : List Byte → Memory
  | [] => []
  | v :: t => Memory.cons start v (imageFrom (start + 1) t)

/-- Store a list of bytes of RAM, each through the write policy of its region (R62). -/
def loadRam (m : Memory) : Memory → Memory
  | [] => m
  | (k, v) :: t =>
    loadRam (if decide (k < 65536) && (regionOf (BitVec.ofNat 16 k)).writable then m.write k v else m) t

/-- `Reset(rom, RESET_REGS, RESET_PC, RESET_MEM)` (R440); none where the image is not 0x8000 bytes (U13). -/
def State.resetOf (params : Params) (rom : List Byte) (v : ResetValues) : Option State :=
  if rom.length = 0x8000 then
    some
      { a := v.a, f := v.f &&& 0xF0, b := v.b, c := v.c, d := v.d, e := v.e, h := v.h, l := v.l, sp := v.sp, pc := v.pc
        ime := false, halted := false, fault := none
        mem := loadRam (imageFrom 0 rom) v.ram
        ly := 0, acc := 0, back := FrameBuffer.blank, front := FrameBuffer.blank
        params := params, cycles := 0, extra := 0 }
  else none

end Sys2Proof.Machine
end

