-- ==== Sys2Proof/Safety.lean ====
section
/-! DEFINITION. The invariant of the block, and the words its statements use: what an instruction keeps, where it
stores, the codes of the encoding fields, and the arithmetic rules written on natural numbers. -/

namespace Sys2Proof

/-! ### The encoding fields (R92–R95, R101) -/

def Reg8.code : Reg8 → Nat
  | .b => 0
  | .c => 1
  | .d => 2
  | .e => 3
  | .h => 4
  | .l => 5
  | .a => 7

def Pair.code : Pair → Nat
  | .bc => 0
  | .de => 1
  | .hl => 2
  | .sp => 3

def StackPair.code : StackPair → Nat
  | .bc => 0
  | .de => 1
  | .hl => 2
  | .af => 3

def Cond.code : Cond → Nat
  | .nz => 0
  | .z => 1

def AluOp.code : AluOp → Nat
  | .add => 0
  | .adc => 1
  | .sub => 2
  | .sbc => 3
  | .and => 4
  | .xor => 5
  | .or => 6
  | .cp => 7

/-- The two bytes of n16 in the instruction stream, the low byte first (R100, decision D7). -/
def n16Bytes (n16 : Word) : List Byte := [BitVec.ofNat 8 n16.toNat, BitVec.ofNat 8 (n16.toNat / 256)]

/-- The 8-bit registers of a pair (R24). -/
def Pair.regs : Pair → List Reg8
  | .bc => [.b, .c]
  | .de => [.d, .e]
  | .hl => [.h, .l]
  | .sp => []

namespace Machine

/-! ### The invariant -/

/-- What every iteration keeps. -/
structure State.Inv (s : State) : Prop where
  /-- F[3:0] = 0 (R22). -/
  flags : s.f &&& 0x0F = 0
  /-- The memory list has its canonical form. -/
  memory : s.mem.wf = true
  /-- Every listed byte has storage behind it (R61). -/
  stored : ∀ cell ∈ s.mem, (regionOf (BitVec.ofNat 16 cell.1)).stored = true
  /-- LY is in 0..153 (R38). -/
  line : s.ly.toNat ≤ 153
  /-- acc is in 0..455 between iterations (R39). -/
  acc : s.acc < 456
  /-- HandleInterrupts returned 0 or 20 (R404). -/
  extra : s.extra = 0 ∨ s.extra = 20

/-! ### What is kept -/

/-- Every 8-bit register but those listed is unchanged. -/
def KeepsRegs (s t : State) (written : List Reg8) : Prop := ∀ r, r ∉ written → t.reg r = s.reg r

/-- Every byte reads as before. -/
def KeepsMemory (s t : State) : Prop := ∀ addr, t.memRead addr = s.memRead addr

/-- The fault record, the timer, the buffers, the parameters and the interrupt controller's answer are unchanged. -/
structure KeepsRest (s t : State) : Prop where
  fault : t.fault = s.fault
  ly : t.ly = s.ly
  acc : t.acc = s.acc
  back : t.back = s.back
  front : t.front = s.front
  params : t.params = s.params
  extra : t.extra = s.extra

/-- SP, PC, IME, halted and the rest are unchanged: all but the 8-bit registers, F, memory and the cycle count. -/
structure KeepsSystem (s t : State) : Prop where
  sp : t.sp = s.sp
  pc : t.pc = s.pc
  ime : t.ime = s.ime
  halted : t.halted = s.halted
  rest : KeepsRest s t

/-! ### What is stored -/

/-- The addresses a write of the CPU stores to, by the ranges of R62: VRAM, work RAM, OAM, the I/O bytes but 0xFF44,
high RAM and IE. That 0xFEA0–0xFEFF is not among them is decision D10 (log 12). -/
def storable (addr : Word) : Bool :=
  (decide (0x8000 ≤ addr.toNat) && decide (addr.toNat ≤ 0x9FFF)) ||
  (decide (0xC000 ≤ addr.toNat) && decide (addr.toNat ≤ 0xDFFF)) ||
  (decide (0xFE00 ≤ addr.toNat) && decide (addr.toNat ≤ 0xFE9F)) ||
  (decide (0xFF00 ≤ addr.toNat) && decide (addr.toNat ≠ 0xFF44))

/-- One byte is written through the decoder: it reads back where the address stores it, and every other byte reads as
before (R62, R73). -/
def StoresByte (s t : State) (addr : Word) (v : Byte) : Prop :=
  ∀ a, t.memRead a = if a = addr ∧ storable addr = true then v else s.memRead a

/-- A 16-bit value is pushed (R300): the high byte at SP − 1, the low byte at SP − 2, each where its address stores it;
every other byte reads as before. -/
def StoresPushed (s t : State) (v : Word) : Prop :=
  ∀ a, t.memRead a =
    if a = s.sp - 2 ∧ storable (s.sp - 2) = true then loByte v
    else if a = s.sp - 1 ∧ storable (s.sp - 1) = true then hiByte v
    else s.memRead a

/-- The 16-bit value on the stack (R301): the low byte at SP, the high byte at SP + 1. -/
def State.stackTop (s : State) : Word := wordOf (s.memRead (s.sp + 1)) (s.memRead s.sp)

/-! ### Flags and arithmetic on natural numbers -/

/-- F holds exactly these flags: Z, N, H, C in bits 7, 6, 5, 4 and bits 3..0 zero (R22, R23). -/
def FlagsAre (t : State) (z n h c : Bool) : Prop :=
  t.f.toNat = 128 * z.toNat + 64 * n.toNat + 32 * h.toNat + 16 * c.toNat

/-- Flag C, bit 4 of F, as a number: the carry in (R23, R202, R204). -/
def State.carry (s : State) : Nat := (s.f.getLsbD 4).toNat

/-- A and F after an ALU operation on a and v with the carry in cin (R201–R208). -/
def AluEffect (op : AluOp) (a v : Byte) (cin : Nat) (t : State) : Prop :=
  match op with
  | .add =>
    t.a.toNat = (a.toNat + v.toNat) % 256 ∧
      FlagsAre t (decide ((a.toNat + v.toNat) % 256 = 0)) false (decide (a.toNat % 16 + v.toNat % 16 > 15))
        (decide (a.toNat + v.toNat > 255))
  | .adc =>
    t.a.toNat = (a.toNat + v.toNat + cin) % 256 ∧
      FlagsAre t (decide ((a.toNat + v.toNat + cin) % 256 = 0)) false
        (decide (a.toNat % 16 + v.toNat % 16 + cin > 15)) (decide (a.toNat + v.toNat + cin > 255))
  | .sub =>
    t.a.toNat = (a.toNat + 256 - v.toNat) % 256 ∧
      FlagsAre t (decide (a = v)) true (decide (a.toNat % 16 < v.toNat % 16)) (decide (a.toNat < v.toNat))
  | .sbc =>
    t.a.toNat = (a.toNat + 512 - v.toNat - cin) % 256 ∧
      FlagsAre t (decide ((a.toNat + 512 - v.toNat - cin) % 256 = 0)) true
        (decide (a.toNat % 16 < v.toNat % 16 + cin)) (decide (a.toNat < v.toNat + cin))
  | .and => t.a = a &&& v ∧ FlagsAre t (decide (a &&& v = 0)) false true false
  | .xor => t.a = a ^^^ v ∧ FlagsAre t (decide (a ^^^ v = 0)) false false false
  | .or => t.a = a ||| v ∧ FlagsAre t (decide (a ||| v = 0)) false false false
  | .cp =>
    t.a = a ∧
      FlagsAre t (decide (a = v)) true (decide (a.toNat % 16 < v.toNat % 16)) (decide (a.toNat < v.toNat))

/-- The register form of an ALU operation: its pattern `10ooosss`, its effect on A and F, and its frame. -/
def AluRegisterForm (op : AluOp) : Prop :=
  ∀ (r : Reg8) (s : State),
    encode (Instr.aluReg op r) = [BitVec.ofNat 8 (0x80 + 8 * op.code + r.code)] ∧
    ∃ t, exec (Instr.aluReg op r) s = .next t ∧ AluEffect op s.a (s.reg r) s.carry t ∧
      KeepsRegs s t [.a] ∧ KeepsMemory s t ∧ KeepsSystem s t

/-- The number an INC gives (R234) and the flags it leaves: flag C is kept. -/
def IncEffect (s t : State) (v res : Byte) : Prop :=
  res.toNat = (v.toNat + 1) % 256 ∧
    FlagsAre t (decide (v.toNat = 255)) false (decide (v.toNat % 16 = 15)) (s.f.getLsbD 4)

/-- The number a DEC gives (R235) and the flags it leaves: flag C is kept. -/
def DecEffect (s t : State) (v res : Byte) : Prop :=
  res.toNat = (v.toNat + 255) % 256 ∧
    FlagsAre t (decide (v.toNat = 1)) true (decide (v.toNat % 16 = 0)) (s.f.getLsbD 4)

/-- The 9-bit rotation of RL (R341): the old flag C enters bit 0, the old bit 7 leaves into flag C. -/
def RotateEffect (s t : State) (v res : Byte) : Prop :=
  res.toNat = (2 * v.toNat + s.carry) % 256 ∧
    FlagsAre t (decide ((2 * v.toNat + s.carry) % 256 = 0)) false false (decide (v.toNat ≥ 128))

/-- The exchange of the nibbles of SWAP (R343). -/
def SwapEffect (t : State) (v res : Byte) : Prop :=
  res.toNat = v.toNat % 16 * 16 + v.toNat / 16 ∧ FlagsAre t (decide (v.toNat = 0)) false false false

/-- The flags of BIT (R345): Z is the complement of the tested bit, flag C is kept. -/
def BitEffect (s t : State) (b : Fin 8) (v : Byte) : Prop :=
  FlagsAre t (decide (v.toNat / 2 ^ b.val % 2 = 0)) false true (s.f.getLsbD 4)

/-- The byte RES leaves (R347): bit b is 0, every other bit as before. -/
def ResetBit (b : Fin 8) (v res : Byte) : Prop :=
  ∀ k < 8, res.getLsbD k = if k = b.val then false else v.getLsbD k

/-! ### The shapes of an instruction's effect: each says that the instruction completes -/

/-- An instruction completes, leaves v in one 8-bit register, and changes no flag, no memory and nothing else. -/
def LoadsRegister (i : Instr) (s : State) (rd : Reg8) (v : Byte) : Prop :=
  ∃ t, exec i s = .next t ∧ t.reg rd = v ∧ KeepsRegs s t [rd] ∧ t.f = s.f ∧ KeepsMemory s t ∧ KeepsSystem s t

/-- An instruction completes, stores v at an address through the decoder, and changes no register, no flag and nothing
else. -/
def StoresAt (i : Instr) (s : State) (addr : Word) (v : Byte) : Prop :=
  ∃ t, exec i s = .next t ∧ StoresByte s t addr v ∧ KeepsRegs s t [] ∧ t.f = s.f ∧ KeepsSystem s t

/-- An instruction completes and changes PC, IME and halted only, to the given values. -/
def SetsControl (i : Instr) (s : State) (pc : Word) (ime halted : Bool) : Prop :=
  ∃ t, exec i s = .next t ∧ t.pc = pc ∧ t.ime = ime ∧ t.halted = halted ∧ KeepsRegs s t [] ∧ t.f = s.f ∧
    t.sp = s.sp ∧ KeepsMemory s t ∧ KeepsRest s t

/-- An instruction completes, pushes v (SP − 2), leaves PC at the given value, and changes no register, no flag and
nothing else. -/
def PushesAndGoes (i : Instr) (s : State) (v pc : Word) : Prop :=
  ∃ t, exec i s = .next t ∧ StoresPushed s t v ∧ t.sp = s.sp - 2 ∧ t.pc = pc ∧ KeepsRegs s t [] ∧ t.f = s.f ∧
    t.ime = s.ime ∧ t.halted = s.halted ∧ KeepsRest s t

/-- An instruction completes, pops PC (SP + 2), leaves IME at the given value, and changes nothing else. -/
def PopsPc (i : Instr) (s : State) (ime : Bool) : Prop :=
  ∃ t, exec i s = .next t ∧ t.pc = s.stackTop ∧ t.sp = s.sp + 2 ∧ t.ime = ime ∧ KeepsRegs s t [] ∧ t.f = s.f ∧
    t.halted = s.halted ∧ KeepsMemory s t ∧ KeepsRest s t

/-- An instruction completes, pops two bytes into two registers (SP + 2), the low byte first, leaves F at the given value,
and changes nothing else. -/
def PopsRegs (i : Instr) (s : State) (written : List (Reg8 × Byte)) (f : Byte) : Prop :=
  ∃ t, exec i s = .next t ∧ (∀ w ∈ written, t.reg w.1 = w.2) ∧ t.f = f ∧ t.sp = s.sp + 2 ∧
    KeepsRegs s t (written.map Prod.fst) ∧ t.pc = s.pc ∧ t.ime = s.ime ∧ t.halted = s.halted ∧ KeepsMemory s t ∧
    KeepsRest s t

/-! ### Costs and the order of a frame -/

/-- An instruction completes and Step returns n (R124). -/
def Costs (i : Instr) (s : State) (n : Nat) : Prop := ∃ t, exec i s = .next t ∧ t.cycles = n

/-- How far the timer is in its frame of 154 lines of 456 cycles (R371). -/
def State.frameClock (s : State) : Nat := s.ly.toNat * 456 + s.acc

/-- A colour index as the number of its two planes' bits (R376): the pixel of a tile that starts at an offset of VRAM. -/
def State.tilePixelAt (s : State) (start row col : Nat) : Nat :=
  2 * ((s.vramByte (start + 2 * row + 1)).getLsbD (7 - col)).toNat +
    ((s.vramByte (start + 2 * row)).getLsbD (7 - col)).toNat

/-- The start of a tile in VRAM (R374): unsigned when LCDC bit 4 is set or LCDC is 0, signed from 0x1000 otherwise. -/
def tileOffset (lcdc index : Byte) : Nat :=
  if lcdc.getLsbD 4 = true ∨ lcdc = 0 then index.toNat * 16
  else if index.toNat < 128 then 0x1000 + index.toNat * 16
  else index.toNat * 16

end Machine

end Sys2Proof
end

