-- ==== Sys2Proof/Certificates/Slice0/Obligations.lean ====
section
/-! DEFINITION. The statements for the provers. An instruction statement starts where R13 and R124 start it: PC already
holds the address after the instruction. `Obligations.StepRunsDecodedInstruction` carries it to a step. -/

open Sys2Proof Sys2Proof.Machine

/-! ### Encoding -/

/-- Decoding the bytes of an admitted instruction, whatever follows them, gives it back with its length (R90, R102–R106,
R110). -/
def Obligations.DecodeInvertsEncode : Prop :=
  ∀ (admitted : Bool) (i : Instr) (rest : List Byte), i.wellFormed admitted = true →
    decodeBytes admitted (encode i ++ rest) = .instr i (encode i).length

/-- What the decoder reads is an admitted instruction, and the bytes it used are exactly that instruction's encoding: no
bit of an encoding is dropped and no two encodings share a meaning (R102, R105, R110). -/
def Obligations.DecodedInstructionReencodes : Prop :=
  ∀ (admitted : Bool) (b0 b1 b2 : Byte) (i : Instr) (n : Nat), decode admitted b0 b1 b2 = .instr i n →
    i.wellFormed admitted = true ∧ encode i = [b0, b1, b2].take n

/-- With ADMIT_INFERRED false an INFERRED instruction's bytes are illegal, whatever follows them (R104, decision D1). -/
def Obligations.InferredInstructionsRefused : Prop :=
  ∀ (i : Instr) (rest : List Byte), i.inferred = true →
    decodeBytes false (encode i ++ rest) =
      if (encode i).getD 0 0 = 0xCB then .illegal .extended ((encode i).getD 1 0) 2
      else .illegal .primary ((encode i).getD 0 0) 1

/-- With ADMIT_INFERRED true the illegal encodings are exactly the 37 first bytes and the 112 second bytes of R103, and
each is reported as the offending byte of its space (decision D1). -/
def Obligations.IllegalBytesAreThoseListed : Prop :=
  ∀ b0 b1 b2 : Byte,
    (decode true b0 b1 b2 = .illegal .primary b0 1 ↔
      b0 ∈ [0x07, 0x08, 0x0F, 0x10, 0x17, 0x1F, 0x27, 0x2F, 0x30, 0x37, 0x38, 0x3F, 0xC0, 0xC4, 0xC8, 0xCC, 0xD0, 0xD2,
        0xD3, 0xD4, 0xD8, 0xDA, 0xDB, 0xDC, 0xDD, 0xE3, 0xE4, 0xE8, 0xE9, 0xEB, 0xEC, 0xED, 0xF4, 0xF8, 0xF9, 0xFC,
        0xFD]) ∧
    (decode true b0 b1 b2 = .illegal .extended b1 2 ↔
      b0 = 0xCB ∧ (b1.toNat ≤ 0x0F ∨ (0x18 ≤ b1.toNat ∧ b1.toNat ≤ 0x2F) ∨ (0x38 ≤ b1.toNat ∧ b1.toNat ≤ 0x3F) ∨
        0xC0 ≤ b1.toNat)) ∧
    (∀ space op n, decode true b0 b1 b2 = .illegal space op n →
      (space = .primary ∧ op = b0 ∧ n = 1) ∨ (space = .extended ∧ op = b1 ∧ n = 2))

/-- The length of an instruction follows from its first byte alone (R106). -/
def Obligations.LengthFollowsFirstByte : Prop :=
  ∀ (admitted : Bool) (b0 b1 b2 : Byte) (i : Instr) (n : Nat), decode admitted b0 b1 b2 = .instr i n →
    n =
      if b0 ∈ [0x01, 0x11, 0x21, 0x31, 0xC2, 0xC3, 0xCA, 0xCD, 0xEA, 0xFA] then 3
      else if b0 ∈ [0x06, 0x0E, 0x16, 0x18, 0x1E, 0x20, 0x26, 0x28, 0x2E, 0x36, 0x3E, 0xC6, 0xCB, 0xCE, 0xD6, 0xDE, 0xE0,
        0xE6, 0xEE, 0xF0, 0xF6, 0xFE] then 2
      else 1

/-- Every bit pattern of R102 and R105, with the field codes of R92–R97 and R101, for all operands. The bytes are the
spec's decision D1, and the order of n16 (R100), its low byte first, is decision D7 (log 12). -/
def Obligations.EncodingsFollowBitPatterns : Prop :=
  -- the patterns of R102 that have no field
  (encode .nop = [0b00000000] ∧ encode .halt = [0b01110110] ∧ encode .di = [0b11110011] ∧ encode .ei = [0b11111011] ∧
    encode .ret = [0b11001001] ∧ encode .reti = [0b11011001]) ∧
  (encode .ldAtBcA = [0b00000010] ∧ encode .ldAtDeA = [0b00010010] ∧ encode .ldAtHliA = [0b00100010] ∧
    encode .ldAtHldA = [0b00110010] ∧ encode .ldAAtBc = [0b00001010] ∧ encode .ldAAtDe = [0b00011010] ∧
    encode .ldAAtHli = [0b00101010] ∧ encode .ldAAtHld = [0b00111010] ∧ encode .ldAtCA = [0b11100010] ∧
    encode .ldAAtC = [0b11110010]) ∧
  (encode .incAtHl = [0b00110100] ∧ encode .decAtHl = [0b00110101]) ∧
  (∀ v, encode (.ldAtHlN8 v) = [0b00110110, v] ∧ encode (.ldhAtN8A v) = [0b11100000, v] ∧
    encode (.ldhAAtN8 v) = [0b11110000, v] ∧ encode (.jrE8 v) = [0b00011000, v]) ∧
  (∀ n16, encode (.ldAtN16A n16) = 0b11101010 :: n16Bytes n16 ∧ encode (.ldAAtN16 n16) = 0b11111010 :: n16Bytes n16 ∧
    encode (.jpN16 n16) = 0b11000011 :: n16Bytes n16 ∧ encode (.callN16 n16) = 0b11001101 :: n16Bytes n16) ∧
  -- the patterns of R102 with a field
  (∀ rd rs, encode (Instr.ldReg rd rs) = [BitVec.ofNat 8 (0x40 + 8 * rd.code + rs.code)]) ∧
  (∀ r, encode (Instr.ldRegMem r) = [BitVec.ofNat 8 (0x46 + 8 * r.code)] ∧
    encode (Instr.ldMemReg r) = [BitVec.ofNat 8 (0x70 + r.code)] ∧
    encode (Instr.incReg r) = [BitVec.ofNat 8 (0x04 + 8 * r.code)] ∧
    encode (Instr.decReg r) = [BitVec.ofNat 8 (0x05 + 8 * r.code)]) ∧
  (∀ r n8, encode (Instr.ldRegN8 r n8) = [BitVec.ofNat 8 (0x06 + 8 * r.code), n8]) ∧
  (∀ p n16, encode (Instr.ldPairN16 p n16) = BitVec.ofNat 8 (0x01 + 16 * p.code) :: n16Bytes n16) ∧
  (∀ p, encode (Instr.incPair p) = [BitVec.ofNat 8 (0x03 + 16 * p.code)] ∧
    encode (Instr.decPair p) = [BitVec.ofNat 8 (0x0B + 16 * p.code)] ∧
    encode (Instr.addHlPair p) = [BitVec.ofNat 8 (0x09 + 16 * p.code)]) ∧
  (∀ op r, encode (Instr.aluReg op r) = [BitVec.ofNat 8 (0x80 + 8 * op.code + r.code)]) ∧
  (∀ op, encode (Instr.aluMem op) = [BitVec.ofNat 8 (0x86 + 8 * op.code)]) ∧
  (∀ op n8, encode (Instr.aluN8 op n8) = [BitVec.ofNat 8 (0xC6 + 8 * op.code), n8]) ∧
  (∀ cc e8, encode (Instr.jrCc cc e8) = [BitVec.ofNat 8 (0x20 + 8 * cc.code), e8]) ∧
  (∀ cc n16, encode (Instr.jpCc cc n16) = BitVec.ofNat 8 (0xC2 + 8 * cc.code) :: n16Bytes n16) ∧
  (∀ v, encode (Instr.rst v) = [BitVec.ofNat 8 (0xC7 + 8 * v.val)]) ∧
  (∀ q, encode (Instr.push q) = [BitVec.ofNat 8 (0xC5 + 16 * q.code)] ∧
    encode (Instr.pop q) = [BitVec.ofNat 8 (0xC1 + 16 * q.code)]) ∧
  -- the patterns of R105
  (encode .rlAtHl = [0b11001011, 0b00010110] ∧ encode .swapAtHl = [0b11001011, 0b00110110]) ∧
  (∀ r, encode (Instr.rlReg r) = [0b11001011, BitVec.ofNat 8 (0x10 + r.code)] ∧
    encode (Instr.swapReg r) = [0b11001011, BitVec.ofNat 8 (0x30 + r.code)]) ∧
  (∀ b r, encode (Instr.bitReg b r) = [0b11001011, BitVec.ofNat 8 (0x40 + 8 * b.val + r.code)] ∧
    encode (Instr.resReg b r) = [0b11001011, BitVec.ofNat 8 (0x80 + 8 * b.val + r.code)]) ∧
  (∀ b, encode (Instr.bitMem b) = [0b11001011, BitVec.ofNat 8 (0x46 + 8 * b.val)] ∧
    encode (Instr.resMem b) = [0b11001011, BitVec.ofNat 8 (0x86 + 8 * b.val)])

/-- Words written out from the encodings of the instruction rules decode to the instructions they stand for; the low byte
of n16 comes first (R100, decision D7), and the bytes are decision D1 (log 12). -/
def Obligations.SampleWordsDecode : Prop :=
  decodeBytes true [0b01000001] = .instr .ldBC 1 ∧
  decodeBytes true [0b00001110, 0x13] = .instr (.ldCN8 0x13) 2 ∧
  decodeBytes true [0b00100001, 0xFF, 0x9F] = .instr (.ldHlN16 0x9FFF) 3 ∧
  decodeBytes true [0b10000000] = .instr .addAB 1 ∧
  decodeBytes true [0b11000011, 0x50, 0x01] = .instr (.jpN16 0x0150) 3 ∧
  decodeBytes true [0b11110101] = .instr .pushAf 1 ∧
  decodeBytes true [0b01110110] = .instr .halt 1 ∧
  decodeBytes true [0b11001011, 0b01101100] = .instr .bit5H 2 ∧
  decodeBytes true [0b11001011, 0b11001011] = .illegal .extended 0xCB 2 ∧
  decodeBytes false [0b00000000] = .illegal .primary 0x00 1

/-! ### Memory and registers -/

/-- Where a read goes (R61, R63–R72): stored bytes come from memory, the external RAM, the echo RAM and the unusable range
read 0, and 0xFF44 reads LY. The unusable range is decision D10. -/
def Obligations.ReadsFollowAddressMap : Prop :=
  ∀ (s : State) (addr : Word),
    s.memRead addr =
      if addr = 0xFF44 then s.ly
      else if addr.toNat ≤ 0x7FFF ∨ storable addr = true then s.mem.read addr.toNat
      else 0

/-- Reading after a write of the CPU, and what a write leaves alone (R62, R73): the byte at a storable address takes the
value, every other byte reads as before, and nothing outside memory changes. That a write to 0xFEA0–0xFEFF is discarded
(R62, R69) is decision D10 (log 12). -/
def Obligations.WritesFollowAddressMap : Prop :=
  ∀ (s : State) (addr : Word) (v : Byte),
    StoresByte s (s.memWrite addr v) addr v ∧ KeepsRegs s (s.memWrite addr v) [] ∧ (s.memWrite addr v).f = s.f ∧
      KeepsSystem s (s.memWrite addr v) ∧ (s.memWrite addr v).cycles = s.cycles

/-- External RAM and echo RAM: reads return 0, writes are discarded; echo RAM does not mirror work RAM (R65, R67). -/
def Obligations.StubRegionsReadZeroAndDropWrites : Prop :=
  ∀ (s : State) (addr : Word) (v : Byte),
    (0xA000 ≤ addr.toNat ∧ addr.toNat ≤ 0xBFFF) ∨ (0xE000 ≤ addr.toNat ∧ addr.toNat ≤ 0xFDFF) →
      s.memRead addr = 0 ∧ s.memWrite addr v = s ∧ ∀ other w, (s.memWrite other w).memRead addr = 0

/-- The pairs BC, DE and HL are big-endian views of their registers, in both directions (R24). -/
def Obligations.PairsAreBigEndianViews : Prop :=
  ∀ (s : State) (v : Word),
    (s.pair .bc).toNat = s.b.toNat * 256 + s.c.toNat ∧ (s.pair .de).toNat = s.d.toNat * 256 + s.e.toNat ∧
    (s.pair .hl).toNat = s.h.toNat * 256 + s.l.toNat ∧
    (s.setPair .bc v).b.toNat = v.toNat / 256 ∧ (s.setPair .bc v).c.toNat = v.toNat % 256 ∧
    (s.setPair .de v).d.toNat = v.toNat / 256 ∧ (s.setPair .de v).e.toNat = v.toNat % 256 ∧
    (s.setPair .hl v).h.toNat = v.toNat / 256 ∧ (s.setPair .hl v).l.toNat = v.toNat % 256 ∧
    (∀ p, KeepsRegs s (s.setPair p v) p.regs ∧ (s.setPair p v).pair p = v) ∧
    (∀ x : Byte, ((s.setReg .b x).pair .bc).toNat = x.toNat * 256 + s.c.toNat)

/-- AF reads as A ++ F, and its setter masks the low nibble of F (R25). -/
def Obligations.AfSetterMasksLowNibble : Prop :=
  ∀ (s : State) (v : Word),
    (s.stackPair .af).toNat = s.a.toNat * 256 + s.f.toNat ∧ (s.setStackPair .af v).a.toNat = v.toNat / 256 ∧
    (s.setStackPair .af v).f.toNat = v.toNat % 256 / 16 * 16 ∧ KeepsRegs s (s.setStackPair .af v) [.a]

/-! ### The step -/

/-- A step of a running block runs the instruction the bytes at PC decode to: PC moves past the instruction, the
instruction acts, the timer takes the cycles it returned, then the interrupt controller runs (R122–R127). -/
def Obligations.StepRunsDecodedInstruction : Prop :=
  ∀ (s : State) (i : Instr) (n : Nat), s.fault = none → s.halted = false →
    decode s.params.admitInferred (s.memRead s.pc) (s.memRead (s.pc + 1)) (s.memRead (s.pc + 2)) = .instr i n →
    ∃ t, exec i { s with pc := s.pc + BitVec.ofNat 16 n } = .next t ∧
      step s = .next (t.updateScanline t.cycles).handleInterrupts

/-- An admitted instruction whose encoded bytes lie at PC is the one a step runs, in whatever region they lie (R79,
R122–R126). -/
def Obligations.EncodedInstructionAtPcRuns : Prop :=
  ∀ (s : State) (i : Instr), s.fault = none → s.halted = false → i.wellFormed s.params.admitInferred = true →
    (∀ k, k < (encode i).length → s.memRead (s.pc + BitVec.ofNat 16 k) = (encode i).getD k 0) →
    ∃ t, exec i { s with pc := s.pc + BitVec.ofNat 16 (encode i).length } = .next t ∧
      step s = .next (t.updateScanline t.cycles).handleInterrupts

/-- A halted CPU's Step returns 4 and fetches nothing: only the timer and the interrupt controller act, and only the
interrupt controller ends the halt (R121). -/
def Obligations.HaltedStepConsumesFourCycles : Prop :=
  ∀ s : State, s.fault = none → s.halted = true →
    step s = .next (({ s with cycles := 4 } : State).updateScanline 4).handleInterrupts ∧
    (({ s with cycles := 4 } : State).updateScanline 4).halted = true ∧
    (∀ (i : Instr) (u t : State), u.halted = true → exec i u = .next t → t.halted = true)

/-- An illegal byte raises the decode fault: the record names the space, the byte and the first byte's address, PC is past
the bytes fetched, and nothing else changes (R125, R400, R401; decisions D11 and D24). -/
def Obligations.IllegalByteRaisesDecodeFault : Prop :=
  ∀ (s : State) (space : Space) (op : Byte) (n : Nat), s.fault = none → s.halted = false →
    decode s.params.admitInferred (s.memRead s.pc) (s.memRead (s.pc + 1)) (s.memRead (s.pc + 2)) =
      .illegal space op n →
    step s = .next { s with pc := s.pc + BitVec.ofNat 16 n, fault := some { space := space, opcode := op, pc := s.pc } }

/-- A running block always steps, whatever its state; a faulted block takes no step: it stops with its record (R120, R400;
the stop is log 6). -/
def Obligations.RunningBlockStepsAndFaultedBlockStops : Prop :=
  (∀ s : State, s.fault = none → ∃ t, step s = .next t) ∧
  (∀ (s : State) (record : IllegalInstruction), s.fault = some record → step s = .fault (.illegalInstruction record))

/-- Every instruction completes in every state, costs 4 to 24 cycles, and leaves the fault record, the timer, the buffers
and the parameters alone (R124, R128, R373, R402). Whatever `CYCLES` holds, the cost is the entry of the instruction's own
row, or, of a conditional instruction not taken, its entry for that (R7, R128, R129; decision D8). -/
def Obligations.EveryInstructionCompletes : Prop :=
  (∀ (i : Instr) (s : State), ∃ t, exec i s = .next t ∧ 4 ≤ t.cycles ∧ t.cycles ≤ 24 ∧ KeepsRest s t) ∧
  ∀ s : State,
    (∀ i : Instr, (∀ cc e8, i ≠ Instr.jrCc cc e8) → (∀ cc n16, i ≠ Instr.jpCc cc n16) →
      Costs i s (s.params.cycles.rows.get i.row).val) ∧
    (∀ cc e8, Costs (Instr.jrCc cc e8) s
      (if s.f.getLsbD 7 = decide (cc = .z) then (s.params.cycles.rows.get (Instr.jrCc cc e8).row).val
        else (s.params.cycles.jrNotTaken cc).val)) ∧
    (∀ cc n16, Costs (Instr.jpCc cc n16) s
      (if s.f.getLsbD 7 = decide (cc = .z) then (s.params.cycles.rows.get (Instr.jpCc cc n16).row).val
        else (s.params.cycles.jpNotTaken cc).val))

/-- The default costs of R128 and R129 (general knowledge of the spec, decision D8; log 4). -/
def Obligations.DefaultCostsAreTheTable : Prop :=
  ∀ s : State, s.params.cycles = CycleTable.standard →
    (Costs .nop s 4 ∧ Costs .halt s 4 ∧ Costs .di s 4 ∧ Costs .ei s 4) ∧
    (∀ rd rs, Costs (Instr.ldReg rd rs) s 4) ∧
    (∀ r, Costs (Instr.incReg r) s 4 ∧ Costs (Instr.decReg r) s 4 ∧ Costs (Instr.ldRegMem r) s 8 ∧
      Costs (Instr.ldMemReg r) s 8 ∧ Costs (Instr.rlReg r) s 8 ∧ Costs (Instr.swapReg r) s 8) ∧
    (∀ r n8, Costs (Instr.ldRegN8 r n8) s 8) ∧
    (∀ op r, Costs (Instr.aluReg op r) s 4) ∧
    (∀ op, Costs (Instr.aluMem op) s 8) ∧
    (∀ op n8, Costs (Instr.aluN8 op n8) s 8) ∧
    (Costs .ldAAtBc s 8 ∧ Costs .ldAAtDe s 8 ∧ Costs .ldAtBcA s 8 ∧ Costs .ldAtDeA s 8 ∧ Costs .ldAtHliA s 8 ∧
      Costs .ldAtHldA s 8 ∧ Costs .ldAAtHli s 8 ∧ Costs .ldAAtHld s 8 ∧ Costs .ldAtCA s 8 ∧ Costs .ldAAtC s 8) ∧
    (∀ p, Costs (Instr.incPair p) s 8 ∧ Costs (Instr.decPair p) s 8 ∧ Costs (Instr.addHlPair p) s 8) ∧
    (∀ p n16, Costs (Instr.ldPairN16 p n16) s 12) ∧
    (∀ n8, Costs (.ldhAtN8A n8) s 12 ∧ Costs (.ldhAAtN8 n8) s 12 ∧ Costs (.ldAtHlN8 n8) s 12) ∧
    (Costs .incAtHl s 12 ∧ Costs .decAtHl s 12) ∧
    (∀ q, Costs (Instr.pop q) s 12 ∧ Costs (Instr.push q) s 16) ∧
    (∀ n16, Costs (.ldAtN16A n16) s 16 ∧ Costs (.ldAAtN16 n16) s 16 ∧ Costs (.jpN16 n16) s 16 ∧
      Costs (.callN16 n16) s 24) ∧
    (Costs .ret s 16 ∧ Costs .reti s 16) ∧
    (∀ v, Costs (Instr.rst v) s 16) ∧
    (∀ e8, Costs (.jrE8 e8) s 12) ∧
    (∀ cc e8, Costs (Instr.jrCc cc e8) s (if s.f.getLsbD 7 = decide (cc = .z) then 12 else 8)) ∧
    (∀ cc n16, Costs (Instr.jpCc cc n16) s (if s.f.getLsbD 7 = decide (cc = .z) then 16 else 12)) ∧
    (∀ b r, Costs (Instr.bitReg b r) s 8 ∧ Costs (Instr.resReg b r) s 8) ∧
    (∀ b, Costs (Instr.bitMem b) s 12 ∧ Costs (Instr.resMem b) s 16) ∧
    (Costs .rlAtHl s 16 ∧ Costs .swapAtHl s 16)

/-! ### Loads -/

/-- LD d,s and LD r,n8: the destination takes the source or the immediate (R150, R153). -/
def Obligations.LoadRegisterOrImmediate : Prop :=
  (∀ (rd rs : Reg8) (s : State), LoadsRegister (Instr.ldReg rd rs) s rd (s.reg rs)) ∧
  (∀ (rd : Reg8) (n8 : Byte) (s : State), LoadsRegister (Instr.ldRegN8 rd n8) s rd n8)

/-- The 8-bit loads from memory: HL, BC, DE, the high page by n8 or C, and n16 (R98, R151, R155, R156, R164, R166,
R168). -/
def Obligations.LoadRegisterFromMemory : Prop :=
  (∀ n8 : Byte, (highPage n8).toNat = 0xFF00 + n8.toNat) ∧
  ∀ s : State,
    (∀ rd, LoadsRegister (Instr.ldRegMem rd) s rd (s.memRead (s.pair .hl))) ∧
    LoadsRegister .ldAAtBc s .a (s.memRead (s.pair .bc)) ∧
    LoadsRegister .ldAAtDe s .a (s.memRead (s.pair .de)) ∧
    (∀ n8, LoadsRegister (.ldhAAtN8 n8) s .a (s.memRead (highPage n8))) ∧
    LoadsRegister .ldAAtC s .a (s.memRead (highPage s.c)) ∧
    (∀ n16, LoadsRegister (.ldAAtN16 n16) s .a (s.memRead n16))

/-- The 8-bit stores to memory: HL, BC, DE, the high page by n8 or C, and n16 (R152, R154, R157, R158, R163, R165,
R167). -/
def Obligations.StoreRegisterToMemory : Prop :=
  ∀ s : State,
    (∀ rs, StoresAt (Instr.ldMemReg rs) s (s.pair .hl) (s.reg rs)) ∧
    (∀ n8, StoresAt (.ldAtHlN8 n8) s (s.pair .hl) n8) ∧
    StoresAt .ldAtBcA s (s.pair .bc) s.a ∧
    StoresAt .ldAtDeA s (s.pair .de) s.a ∧
    (∀ n8, StoresAt (.ldhAtN8A n8) s (highPage n8) s.a) ∧
    StoresAt .ldAtCA s (highPage s.c) s.a ∧
    (∀ n16, StoresAt (.ldAtN16A n16) s n16 s.a)

/-- The accesses through HL+ and HL−: the access uses the old HL, then HL changes by one (R159–R162, decision D12). -/
def Obligations.PostModifyingLoads : Prop :=
  ∀ s : State,
    (∃ t, exec .ldAtHliA s = .next t ∧ StoresByte s t (s.pair .hl) s.a ∧ t.pair .hl = s.pair .hl + 1 ∧
      KeepsRegs s t [.h, .l] ∧ t.f = s.f ∧ KeepsSystem s t) ∧
    (∃ t, exec .ldAtHldA s = .next t ∧ StoresByte s t (s.pair .hl) s.a ∧ t.pair .hl = s.pair .hl - 1 ∧
      KeepsRegs s t [.h, .l] ∧ t.f = s.f ∧ KeepsSystem s t) ∧
    (∃ t, exec .ldAAtHli s = .next t ∧ t.a = s.memRead (s.pair .hl) ∧ t.pair .hl = s.pair .hl + 1 ∧
      KeepsRegs s t [.a, .h, .l] ∧ t.f = s.f ∧ KeepsMemory s t ∧ KeepsSystem s t) ∧
    (∃ t, exec .ldAAtHld s = .next t ∧ t.a = s.memRead (s.pair .hl) ∧ t.pair .hl = s.pair .hl - 1 ∧
      KeepsRegs s t [.a, .h, .l] ∧ t.f = s.f ∧ KeepsMemory s t ∧ KeepsSystem s t)

/-- LD dd,n16: the pair takes the immediate; SP changes only for dd = SP (R169). -/
def Obligations.LoadPairImmediate : Prop :=
  ∀ (p : Pair) (n16 : Word) (s : State), ∃ t, exec (Instr.ldPairN16 p n16) s = .next t ∧ t.pair p = n16 ∧
    KeepsRegs s t p.regs ∧ (p = .sp ∨ t.sp = s.sp) ∧ t.f = s.f ∧ t.pc = s.pc ∧ t.ime = s.ime ∧ t.halted = s.halted ∧
    KeepsMemory s t ∧ KeepsRest s t

/-! ### The 8-bit ALU -/

/-- ADD, ADC, SUB and SBC of a register: the pattern `10ooosss`, the result in A and the four flags (R201–R204, R210,
R213, R216, R219). -/
def Obligations.AluArithmeticRegister : Prop :=
  AluRegisterForm .add ∧ AluRegisterForm .adc ∧ AluRegisterForm .sub ∧ AluRegisterForm .sbc

/-- AND, XOR, OR and CP of a register: the pattern `10ooosss`, A (kept by CP) and the four flags (R205–R208, R222, R225,
R228, R231). -/
def Obligations.AluLogicAndCompareRegister : Prop :=
  AluRegisterForm .and ∧ AluRegisterForm .xor ∧ AluRegisterForm .or ∧ AluRegisterForm .cp

/-- The eight operations with the byte at HL: one read, no write (R200, R211, R214, R217, R220, R223, R226, R229, R232). -/
def Obligations.AluMemoryOperand : Prop :=
  ∀ (op : AluOp) (s : State), ∃ t, exec (Instr.aluMem op) s = .next t ∧
    AluEffect op s.a (s.memRead (s.pair .hl)) s.carry t ∧ KeepsRegs s t [.a] ∧ KeepsMemory s t ∧ KeepsSystem s t

/-- The eight operations with an immediate (R200, R212, R215, R218, R221, R224, R227, R230, R233). -/
def Obligations.AluImmediateOperand : Prop :=
  ∀ (op : AluOp) (n8 : Byte) (s : State), ∃ t, exec (Instr.aluN8 op n8) s = .next t ∧
    AluEffect op s.a n8 s.carry t ∧ KeepsRegs s t [.a] ∧ KeepsMemory s t ∧ KeepsSystem s t

/-- INC r and DEC r: the patterns, the result, Z, N and H; flag C is kept (R234, R235, R236, R238). -/
def Obligations.IncDecRegister : Prop :=
  ∀ (r : Reg8) (s : State),
    (encode (Instr.incReg r) = [BitVec.ofNat 8 (0x04 + 8 * r.code)] ∧
      ∃ t, exec (Instr.incReg r) s = .next t ∧ IncEffect s t (s.reg r) (t.reg r) ∧ KeepsRegs s t [r] ∧
        KeepsMemory s t ∧ KeepsSystem s t) ∧
    (encode (Instr.decReg r) = [BitVec.ofNat 8 (0x05 + 8 * r.code)] ∧
      ∃ t, exec (Instr.decReg r) s = .next t ∧ DecEffect s t (s.reg r) (t.reg r) ∧ KeepsRegs s t [r] ∧
        KeepsMemory s t ∧ KeepsSystem s t)

/-- INC (HL) and DEC (HL): the flags come from the byte read, and the result is written back through the decoder (R237,
R239). -/
def Obligations.IncDecMemory : Prop :=
  ∀ s : State,
    (∃ t res, exec .incAtHl s = .next t ∧ IncEffect s t (s.memRead (s.pair .hl)) res ∧
      StoresByte s t (s.pair .hl) res ∧ KeepsRegs s t [] ∧ KeepsSystem s t) ∧
    (∃ t res, exec .decAtHl s = .next t ∧ DecEffect s t (s.memRead (s.pair .hl)) res ∧
      StoresByte s t (s.pair .hl) res ∧ KeepsRegs s t [] ∧ KeepsSystem s t)

/-! ### 16-bit arithmetic -/

/-- INC dd and DEC dd: the pair wraps modulo 65536 and no flag changes (R250, R251). -/
def Obligations.IncDecPair : Prop :=
  ∀ (p : Pair) (s : State),
    (∃ t, exec (Instr.incPair p) s = .next t ∧ (t.pair p).toNat = ((s.pair p).toNat + 1) % 65536 ∧
      KeepsRegs s t p.regs ∧ (p = .sp ∨ t.sp = s.sp) ∧ t.f = s.f ∧ t.pc = s.pc ∧ t.ime = s.ime ∧ t.halted = s.halted ∧
      KeepsMemory s t ∧ KeepsRest s t) ∧
    (∃ t, exec (Instr.decPair p) s = .next t ∧ (t.pair p).toNat = ((s.pair p).toNat + 65535) % 65536 ∧
      KeepsRegs s t p.regs ∧ (p = .sp ∨ t.sp = s.sp) ∧ t.f = s.f ∧ t.pc = s.pc ∧ t.ime = s.ime ∧ t.halted = s.halted ∧
      KeepsMemory s t ∧ KeepsRest s t)

/-- ADD HL,dd: the pattern `00dd1001`, the sum in HL, N = 0, H from bit 11, C from bit 15, Z kept (R252). -/
def Obligations.AddHlPair : Prop :=
  ∀ (p : Pair) (s : State),
    encode (Instr.addHlPair p) = [BitVec.ofNat 8 (0x09 + 16 * p.code)] ∧
    ∃ t, exec (Instr.addHlPair p) s = .next t ∧
      (t.pair .hl).toNat = ((s.pair .hl).toNat + (s.pair p).toNat) % 65536 ∧
      FlagsAre t (s.f.getLsbD 7) false (decide ((s.pair .hl).toNat % 4096 + (s.pair p).toNat % 4096 > 4095))
        (decide ((s.pair .hl).toNat + (s.pair p).toNat > 65535)) ∧
      KeepsRegs s t [.h, .l] ∧ KeepsMemory s t ∧ KeepsSystem s t

/-! ### Control transfer -/

/-- JP n16 and JP cc,n16: the patterns, the condition on Z alone, and the target (R270, R273, R274). -/
def Obligations.AbsoluteJumps : Prop :=
  ∀ (n16 : Word) (s : State),
    (s.cond .nz = !s.f.getLsbD 7 ∧ s.cond .z = s.f.getLsbD 7) ∧
    (encode (.jpN16 n16)).head? = some 0b11000011 ∧ (encode (.jpN16 n16)).length = 3 ∧
    SetsControl (.jpN16 n16) s n16 s.ime s.halted ∧
    ∀ cc,
      (encode (Instr.jpCc cc n16)).head? = some (BitVec.ofNat 8 (0xC2 + 8 * cc.code)) ∧
      (encode (Instr.jpCc cc n16)).length = 3 ∧
      SetsControl (Instr.jpCc cc n16) s (if s.f.getLsbD 7 = decide (cc = .z) then n16 else s.pc) s.ime s.halted

/-- JR e8 and JR cc,e8: the signed offset counts from the next instruction, modulo 65536 (R99, R271, R272; decision
D28). -/
def Obligations.RelativeJumps : Prop :=
  ∀ (e8 : Byte) (s : State),
    SetsControl (.jrE8 e8) s (BitVec.ofInt 16 (s.pc.toNat + e8.toInt)) s.ime s.halted ∧
    ∀ cc, SetsControl (Instr.jrCc cc e8) s
      (if s.f.getLsbD 7 = decide (cc = .z) then BitVec.ofInt 16 (s.pc.toNat + e8.toInt) else s.pc) s.ime s.halted

/-- CALL n16: the next instruction's address is pushed, high byte at SP − 1 and low byte at SP − 2, then PC takes n16
(R275). -/
def Obligations.CallPushesReturnAddress : Prop :=
  ∀ (n16 : Word) (s : State), PushesAndGoes (.callN16 n16) s s.pc n16

/-- RST t: the next instruction's address is pushed and PC takes t · 8 (R97, R278; decision D27). -/
def Obligations.RestartCallsItsVector : Prop :=
  ∀ (v : Fin 8) (s : State), PushesAndGoes (Instr.rst v) s s.pc (BitVec.ofNat 16 (8 * v.val))

/-- RET: PC is popped, the low byte at SP and the high byte at SP + 1; IME is kept (R276). -/
def Obligations.ReturnPopsPc : Prop :=
  ∀ s : State, PopsPc .ret s s.ime

/-- RETI: PC is popped and IME is set at once (R277, R411). -/
def Obligations.ReturnFromInterruptSetsIme : Prop :=
  ∀ s : State, PopsPc .reti s true

/-- CALL followed by RET restores PC, SP and every register, when both stack bytes are storable, wherever the RET was
fetched from (R275, R276). -/
def Obligations.CallThenReturnRestores : Prop :=
  ∀ (s : State) (n16 fetched : Word), storable (s.sp - 1) = true → storable (s.sp - 2) = true →
    ∃ t u, exec (.callN16 n16) s = .next t ∧ exec .ret { t with pc := fetched } = .next u ∧ u.pc = s.pc ∧ u.sp = s.sp ∧
      KeepsRegs s u [] ∧ u.f = s.f ∧ u.ime = s.ime ∧ u.halted = s.halted ∧ KeepsRest s u

/-! ### The stack -/

/-- PUSH BC, DE, HL and AF: the pattern, the pair's two bytes on the stack and SP − 2; F is read, not written (R300, R302,
R303). -/
def Obligations.PushStoresPair : Prop :=
  ∀ (q : StackPair) (s : State),
    encode (Instr.push q) = [BitVec.ofNat 8 (0xC5 + 16 * q.code)] ∧ PushesAndGoes (Instr.push q) s (s.stackPair q) s.pc

/-- POP BC, DE, HL and AF: the low byte from SP, the high byte from SP + 1, SP + 2; only POP AF writes F, with its low
nibble cleared (R301, R304, R305). -/
def Obligations.PopLoadsPair : Prop :=
  ∀ s : State,
    PopsRegs .popBc s [(.b, s.memRead (s.sp + 1)), (.c, s.memRead s.sp)] s.f ∧
    PopsRegs .popDe s [(.d, s.memRead (s.sp + 1)), (.e, s.memRead s.sp)] s.f ∧
    PopsRegs .popHl s [(.h, s.memRead (s.sp + 1)), (.l, s.memRead s.sp)] s.f ∧
    PopsRegs .popAf s [(.a, s.memRead (s.sp + 1))] (BitVec.ofNat 8 ((s.memRead s.sp).toNat / 16 * 16))

/-- PUSH qq then POP qq gives every register, F and SP back, when both stack bytes are storable; for AF the low nibble of F
is 0, which holds of every reachable state (R304, R305). -/
def Obligations.PushPopRoundTrip : Prop :=
  ∀ (q : StackPair) (s : State) (fetched : Word), storable (s.sp - 1) = true → storable (s.sp - 2) = true →
    s.f &&& 0x0F = 0 →
    ∃ t u, exec (Instr.push q) s = .next t ∧ exec (Instr.pop q) { t with pc := fetched } = .next u ∧ u.sp = s.sp ∧
      KeepsRegs s u [] ∧ u.f = s.f ∧ u.ime = s.ime ∧ u.halted = s.halted ∧ KeepsRest s u

/-! ### NOP, HALT, DI, EI and the extended operations -/

/-- NOP does nothing, HALT sets halted, DI clears and EI sets IME, all at once and with nothing else changed (R320–R323). -/
def Obligations.NopHaltDiEi : Prop :=
  ∀ s : State,
    SetsControl .nop s s.pc s.ime s.halted ∧ SetsControl .halt s s.pc s.ime true ∧
    SetsControl .di s s.pc false s.halted ∧ SetsControl .ei s s.pc true s.halted

/-- RL and SWAP of a register and of (HL): the result and the four flags (R340–R344; the flags are decision D14). -/
def Obligations.RotateAndSwap : Prop :=
  ∀ s : State,
    (∀ r, ∃ t, exec (Instr.rlReg r) s = .next t ∧ RotateEffect s t (s.reg r) (t.reg r) ∧ KeepsRegs s t [r] ∧
      KeepsMemory s t ∧ KeepsSystem s t) ∧
    (∃ t res, exec .rlAtHl s = .next t ∧ RotateEffect s t (s.memRead (s.pair .hl)) res ∧
      StoresByte s t (s.pair .hl) res ∧ KeepsRegs s t [] ∧ KeepsSystem s t) ∧
    (∀ r, ∃ t, exec (Instr.swapReg r) s = .next t ∧ SwapEffect t (s.reg r) (t.reg r) ∧ KeepsRegs s t [r] ∧
      KeepsMemory s t ∧ KeepsSystem s t) ∧
    (∃ t res, exec .swapAtHl s = .next t ∧ SwapEffect t (s.memRead (s.pair .hl)) res ∧
      StoresByte s t (s.pair .hl) res ∧ KeepsRegs s t [] ∧ KeepsSystem s t)

/-- BIT of a register and of (HL): Z is the complement of the bit, N = 0, H = 1, flag C and the operand are kept (R345,
R346; the polarity is decision D13). -/
def Obligations.BitTest : Prop :=
  ∀ (b : Fin 8) (s : State),
    (∀ r, ∃ t, exec (Instr.bitReg b r) s = .next t ∧ BitEffect s t b (s.reg r) ∧ KeepsRegs s t [] ∧ KeepsMemory s t ∧
      KeepsSystem s t) ∧
    (∃ t, exec (Instr.bitMem b) s = .next t ∧ BitEffect s t b (s.memRead (s.pair .hl)) ∧ KeepsRegs s t [] ∧
      KeepsMemory s t ∧ KeepsSystem s t)

/-- RES of a register and of (HL): bit b becomes 0, every other bit and F are kept (R347, R348; decision D14). -/
def Obligations.BitReset : Prop :=
  ∀ (b : Fin 8) (s : State),
    (∀ r, ∃ t, exec (Instr.resReg b r) s = .next t ∧ ResetBit b (s.reg r) (t.reg r) ∧ t.f = s.f ∧ KeepsRegs s t [r] ∧
      KeepsMemory s t ∧ KeepsSystem s t) ∧
    (∃ t res, exec (Instr.resMem b) s = .next t ∧ ResetBit b (s.memRead (s.pair .hl)) res ∧ t.f = s.f ∧
      StoresByte s t (s.pair .hl) res ∧ KeepsRegs s t [] ∧ KeepsSystem s t)

/-! ### The timer and the PPU -/

/-- UpdateScanline (R370): below 456 only acc grows; at a boundary acc loses 456 and LY moves on, with a render for
LY < 144, the swap and IF bit 0 when LY becomes 144, and the wrap to 0 from 153 on. -/
def Obligations.ScanlineTimer : Prop :=
  ∀ (s : State) (c : Nat),
    (s.acc + c < 456 → s.updateScanline c = { s with acc := s.acc + c }) ∧
    (456 ≤ s.acc + c → s.ly.toNat < 143 →
      s.updateScanline c = { s.renderScanline s.ly.toNat with acc := s.acc + c - 456, ly := s.ly + 1 }) ∧
    (456 ≤ s.acc + c → s.ly = 143 →
      s.updateScanline c =
        { s.renderScanline 143 with
          acc := s.acc + c - 456, ly := 144, front := (s.renderScanline 143).back
          mem := s.mem.write 0xFF0F (s.mem.read 0xFF0F ||| 0x01) }) ∧
    (456 ≤ s.acc + c → 144 ≤ s.ly.toNat → s.ly.toNat < 153 →
      s.updateScanline c = { s with acc := s.acc + c - 456, ly := s.ly + 1 }) ∧
    (456 ≤ s.acc + c → 153 ≤ s.ly.toNat → s.updateScanline c = { s with acc := s.acc + c - 456, ly := 0 })

/-- RenderScanline (R376, R378–R380): with the LCD off, or below the screen, nothing changes; otherwise row y of the back
buffer takes the 160 pixels of the map row y / 8 and tile row y % 8, and nothing else changes. The map stride and the
plane order are decisions D15 and D33. -/
def Obligations.RenderScanlineDrawsItsRow : Prop :=
  ∀ (s : State) (y : Nat),
    (s.lcdc.getLsbD 7 = false ∨ 144 ≤ y → s.renderScanline y = s) ∧
    (s.lcdc.getLsbD 7 = true → ∀ hy : y < 144,
      s.renderScanline y = { s with back := (s.renderScanline y).back } ∧
      (∀ row : Fin 144, row.val ≠ y → (s.renderScanline y).back.get row = s.back.get row) ∧
      (∀ x : Fin 160, (((s.renderScanline y).back.get ⟨y, hy⟩).get x).toNat =
        s.tilePixelAt
          (tileOffset s.lcdc
            (s.vramByte ((if s.lcdc.getLsbD 3 = true then 0x1C00 else 0x1800) + y / 8 * 32 + x.val / 8)))
          (y % 8) (x.val % 8)))

/-- The two tile addressing modes, and that no tile index leaves VRAM, so that the blank tile is never produced (R374,
R375). -/
def Obligations.TilesStayInVram : Prop :=
  ∀ lcdc index : Byte,
    tileStart lcdc index = (tileOffset lcdc index : Int) ∧ tileOffset lcdc index + 16 ≤ 0x1800 ∧
    (128 ≤ index.toNat → tileOffset lcdc index = index.toNat * 16) ∧
    ∀ (s : State) (k : Fin 16),
      (s.getTile lcdc index).length = 16 ∧
      (s.getTile lcdc index).getD k.val 0 = s.vramByte (tileOffset lcdc index + k.val)

/-- The front buffer changes only when LY goes from 143 to 144, and then it is the whole back buffer (R40, R381, R382). -/
def Obligations.FrontBufferChangesOnlyAtVBlank : Prop :=
  ∀ s t : State, step s = .next t →
    t.front = s.front ∨ (s.ly = 143 ∧ t.ly = 144 ∧ t.front = t.back)

/-- The timer runs through its frame of 154 × 456 = 70224 cycles by exactly the cycles of each Step, the halted Step's
included and a dispatch's not (R127, R371, R373). -/
def Obligations.FrameClockCountsStepCycles : Prop :=
  ∀ s t : State, s.Inv → step s = .next t → t.fault = none →
    t.frameClock = (s.frameClock + t.cycles) % 70224

/-! ### Interrupts -/

/-- With IME false or nothing pending, HandleInterrupts changes nothing but the wake, and returns 0 (R406). -/
def Obligations.NoDispatchWithoutEnable : Prop :=
  ∀ s : State, s.ime = false ∨ s.mem.read 0xFF0F &&& s.mem.read 0xFFFF = 0 →
    s.handleInterrupts =
      { s with
        halted := if s.mem.read 0xFF0F &&& s.mem.read 0xFFFF = 0 then s.halted else false
        extra := 0 }

/-- VBlank dispatch (R407): IME is cleared, then IF bit 0, then PC is pushed, high byte first, and PC takes 0x0040; 20 is
returned. Nothing else is saved or changed. -/
def Obligations.VBlankDispatch : Prop :=
  ∀ s : State, s.ime = true → (s.mem.read 0xFF0F &&& s.mem.read 0xFFFF).getLsbD 0 = true →
    s.handleInterrupts.ime = false ∧ s.handleInterrupts.pc = 0x0040 ∧ s.handleInterrupts.sp = s.sp - 2 ∧
    s.handleInterrupts.extra = 20 ∧
    (∀ a, s.handleInterrupts.memRead a =
      if a = s.sp - 2 ∧ storable (s.sp - 2) = true then loByte s.pc
      else if a = s.sp - 1 ∧ storable (s.sp - 1) = true then hiByte s.pc
      else if a = 0xFF0F then s.memRead 0xFF0F &&& 0xFE
      else s.memRead a) ∧
    KeepsRegs s s.handleInterrupts [] ∧ s.handleInterrupts.f = s.f ∧ s.handleInterrupts.halted = false ∧
    KeepsRest s { s.handleInterrupts with extra := s.extra } ∧ s.handleInterrupts.cycles = s.cycles

/-- Any pending bit wakes a halted CPU, whatever IME is; pending bits other than bit 0 do nothing else (R405, R408;
decision D30). -/
def Obligations.AnyPendingBitWakes : Prop :=
  ∀ s : State, s.mem.read 0xFF0F &&& s.mem.read 0xFFFF ≠ 0 →
    s.handleInterrupts.halted = false ∧
    ((s.mem.read 0xFF0F &&& s.mem.read 0xFFFF).getLsbD 0 = false →
      s.handleInterrupts = { s with halted := false, extra := 0 })

/-- EI takes effect in its own iteration: with VBlank requested and enabled, the step that runs EI also dispatches, and
pushes the address after the EI (R323, R409, R443). -/
def Obligations.EiDispatchesInItsOwnIteration : Prop :=
  ∀ s : State, s.fault = none → s.halted = false → s.memRead s.pc = 0xFB →
    (s.mem.read 0xFF0F &&& s.mem.read 0xFFFF).getLsbD 0 = true →
    ∃ t, step s = .next t ∧ t.ime = false ∧ t.pc = 0x0040 ∧ t.sp = s.sp - 2 ∧ t.extra = 20 ∧
      (storable (s.sp - 1) = true → t.memRead (s.sp - 1) = hiByte (s.pc + 1)) ∧
      (storable (s.sp - 2) = true → t.memRead (s.sp - 2) = loByte (s.pc + 1))

/-- A halted CPU with IE = 0 iterates for ever at 4 cycles a Step and never wakes (R133). -/
def Obligations.HaltedWithoutEnableNeverWakes : Prop :=
  ∀ (k : Nat) (s : State), s.fault = none → s.halted = true → s.mem.read 0xFFFF = 0 →
    ∃ t : State, Sys2Proof.core.run k s = .next t ∧ t.halted = true ∧ t.fault = none ∧ t.mem.read 0xFFFF = 0 ∧
      t.pc = s.pc ∧ (k = 0 ∨ t.cycles = 4)

/-! ### Invariants and reset -/

/-- Every step keeps the invariant: F[3:0] = 0, the canonical memory, storage behind every listed byte, LY ≤ 153,
acc < 456 and an interrupt answer of 0 or 20 (R22, R38, R39, R61, R404). -/
def Obligations.StepKeepsInvariant : Prop :=
  ∀ s t : State, s.Inv → step s = .next t → t.Inv

/-- The invariant holds right after reset, at the model's own values (log 1, log 2, log 3) and at every value of the OPEN
inputs. LY = 0 and acc = 0 are decision D4; extra = 0 is the model's own choice (log 5). -/
def Obligations.ResetMeetsInvariant : Prop :=
  State.reset.Inv ∧
  ∀ (params : Params) (rom : List Byte) (v : ResetValues) (s : State),
    State.resetOf params rom v = some s → s.Inv

/-- Reset (R440): the registers and RAM take the OPEN inputs, F with its low nibble cleared, ROM takes the image, and the
rest takes the spec's decided values (D2–D6); an image of another length is refused (U13). -/
def Obligations.ResetSetsEveryItem : Prop :=
  ∀ (params : Params) (rom : List Byte) (v : ResetValues),
    (rom.length ≠ 0x8000 → State.resetOf params rom v = none) ∧
    (rom.length = 0x8000 → v.ram.wf = true →
      ∃ s, State.resetOf params rom v = some s ∧
        s.a = v.a ∧ s.b = v.b ∧ s.c = v.c ∧ s.d = v.d ∧ s.e = v.e ∧ s.h = v.h ∧ s.l = v.l ∧ s.f = v.f &&& 0xF0 ∧
        s.sp = v.sp ∧ s.pc = v.pc ∧ s.ime = false ∧ s.halted = false ∧ s.fault = none ∧ s.ly = 0 ∧ s.acc = 0 ∧
        (∀ (row : Fin 144) (x : Fin 160), (s.back.get row).get x = 0 ∧ (s.front.get row).get x = 0) ∧
        (∀ addr : Word, addr.toNat ≤ 0x7FFF → s.memRead addr = rom.getD addr.toNat 0) ∧
        (∀ addr : Word, storable addr = true → s.memRead addr = v.ram.read addr.toNat) ∧
        s.params = params)

/-- No step changes the ROM or the parameters (R31, R45, R63). -/
def Obligations.RomAndParametersNeverChange : Prop :=
  ∀ s t : State, step s = .next t →
    t.params = s.params ∧ ∀ addr : Word, addr.toNat ≤ 0x7FFF → t.memRead addr = s.memRead addr
end

