-- ==== Sys2Proof/Laws/PerInstr.lean ====
section
/-! SUPPORT. The per-instruction family `Encoding`: every instruction is encoded in one to three bytes, and it is marked
INFERRED exactly when the byte that selects it is in the lists of R104. -/

namespace Sys2Proof.Laws.Encoding

/-- Whether the byte that selects an instruction is one of the INFERRED bytes of R104. -/
def marked : List Byte → Bool
  | [] => false
  | b0 :: rest => if b0 = prefixByte then inferredExtended.contains (rest.getD 0 0) else inferredPrimary.contains b0

/-- The length of R90 and the marking of R104. -/
def Statement (i : Instr) : Prop :=
  1 ≤ (encode i).length ∧ (encode i).length ≤ 3 ∧ i.inferred = marked (encode i)

/-- `Statement` as one computation. -/
def check (i : Instr) : Bool :=
  Nat.ble 1 (encode i).length && Nat.ble (encode i).length 3 && (i.inferred == marked (encode i))

theorem of_check {i : Instr} (h : check i = true) : Statement i := by
  simp only [check, Bool.and_eq_true, Nat.ble_eq, beq_iff_eq] at h
  exact ⟨h.1.1, h.1.2, h.2⟩

theorem nop : Statement .nop := of_check rfl
theorem ldBcN16 (n16 : Word) : Statement (.ldBcN16 n16) := of_check rfl
theorem ldAtBcA : Statement .ldAtBcA := of_check rfl
theorem incBc : Statement .incBc := of_check rfl
theorem incB : Statement .incB := of_check rfl
theorem decB : Statement .decB := of_check rfl
theorem ldBN8 (n8 : Byte) : Statement (.ldBN8 n8) := of_check rfl
theorem addHlBc : Statement .addHlBc := of_check rfl
theorem ldAAtBc : Statement .ldAAtBc := of_check rfl
theorem decBc : Statement .decBc := of_check rfl
theorem incC : Statement .incC := of_check rfl
theorem decC : Statement .decC := of_check rfl
theorem ldCN8 (n8 : Byte) : Statement (.ldCN8 n8) := of_check rfl
theorem ldDeN16 (n16 : Word) : Statement (.ldDeN16 n16) := of_check rfl
theorem ldAtDeA : Statement .ldAtDeA := of_check rfl
theorem incDe : Statement .incDe := of_check rfl
theorem incD : Statement .incD := of_check rfl
theorem decD : Statement .decD := of_check rfl
theorem ldDN8 (n8 : Byte) : Statement (.ldDN8 n8) := of_check rfl
theorem jrE8 (e8 : Byte) : Statement (.jrE8 e8) := of_check rfl
theorem addHlDe : Statement .addHlDe := of_check rfl
theorem ldAAtDe : Statement .ldAAtDe := of_check rfl
theorem decDe : Statement .decDe := of_check rfl
theorem incE : Statement .incE := of_check rfl
theorem decE : Statement .decE := of_check rfl
theorem ldEN8 (n8 : Byte) : Statement (.ldEN8 n8) := of_check rfl
theorem jrNzE8 (e8 : Byte) : Statement (.jrNzE8 e8) := of_check rfl
theorem ldHlN16 (n16 : Word) : Statement (.ldHlN16 n16) := of_check rfl
theorem ldAtHliA : Statement .ldAtHliA := of_check rfl
theorem incHl : Statement .incHl := of_check rfl
theorem incH : Statement .incH := of_check rfl
theorem decH : Statement .decH := of_check rfl
theorem ldHN8 (n8 : Byte) : Statement (.ldHN8 n8) := of_check rfl
theorem jrZE8 (e8 : Byte) : Statement (.jrZE8 e8) := of_check rfl
theorem addHlHl : Statement .addHlHl := of_check rfl
theorem ldAAtHli : Statement .ldAAtHli := of_check rfl
theorem decHl : Statement .decHl := of_check rfl
theorem incL : Statement .incL := of_check rfl
theorem decL : Statement .decL := of_check rfl
theorem ldLN8 (n8 : Byte) : Statement (.ldLN8 n8) := of_check rfl
theorem ldSpN16 (n16 : Word) : Statement (.ldSpN16 n16) := of_check rfl
theorem ldAtHldA : Statement .ldAtHldA := of_check rfl
theorem incSp : Statement .incSp := of_check rfl
theorem incAtHl : Statement .incAtHl := of_check rfl
theorem decAtHl : Statement .decAtHl := of_check rfl
theorem ldAtHlN8 (n8 : Byte) : Statement (.ldAtHlN8 n8) := of_check rfl
theorem addHlSp : Statement .addHlSp := of_check rfl
theorem ldAAtHld : Statement .ldAAtHld := of_check rfl
theorem decSp : Statement .decSp := of_check rfl
theorem incA : Statement .incA := of_check rfl
theorem decA : Statement .decA := of_check rfl
theorem ldAN8 (n8 : Byte) : Statement (.ldAN8 n8) := of_check rfl
theorem ldBB : Statement .ldBB := of_check rfl
theorem ldBC : Statement .ldBC := of_check rfl
theorem ldBD : Statement .ldBD := of_check rfl
theorem ldBE : Statement .ldBE := of_check rfl
theorem ldBH : Statement .ldBH := of_check rfl
theorem ldBL : Statement .ldBL := of_check rfl
theorem ldBAtHl : Statement .ldBAtHl := of_check rfl
theorem ldBA : Statement .ldBA := of_check rfl
theorem ldCB : Statement .ldCB := of_check rfl
theorem ldCC : Statement .ldCC := of_check rfl
theorem ldCD : Statement .ldCD := of_check rfl
theorem ldCE : Statement .ldCE := of_check rfl
theorem ldCH : Statement .ldCH := of_check rfl
theorem ldCL : Statement .ldCL := of_check rfl
theorem ldCAtHl : Statement .ldCAtHl := of_check rfl
theorem ldCA : Statement .ldCA := of_check rfl
theorem ldDB : Statement .ldDB := of_check rfl
theorem ldDC : Statement .ldDC := of_check rfl
theorem ldDD : Statement .ldDD := of_check rfl
theorem ldDE : Statement .ldDE := of_check rfl
theorem ldDH : Statement .ldDH := of_check rfl
theorem ldDL : Statement .ldDL := of_check rfl
theorem ldDAtHl : Statement .ldDAtHl := of_check rfl
theorem ldDA : Statement .ldDA := of_check rfl
theorem ldEB : Statement .ldEB := of_check rfl
theorem ldEC : Statement .ldEC := of_check rfl
theorem ldED : Statement .ldED := of_check rfl
theorem ldEE : Statement .ldEE := of_check rfl
theorem ldEH : Statement .ldEH := of_check rfl
theorem ldEL : Statement .ldEL := of_check rfl
theorem ldEAtHl : Statement .ldEAtHl := of_check rfl
theorem ldEA : Statement .ldEA := of_check rfl
theorem ldHB : Statement .ldHB := of_check rfl
theorem ldHC : Statement .ldHC := of_check rfl
theorem ldHD : Statement .ldHD := of_check rfl
theorem ldHE : Statement .ldHE := of_check rfl
theorem ldHH : Statement .ldHH := of_check rfl
theorem ldHL : Statement .ldHL := of_check rfl
theorem ldHAtHl : Statement .ldHAtHl := of_check rfl
theorem ldHA : Statement .ldHA := of_check rfl
theorem ldLB : Statement .ldLB := of_check rfl
theorem ldLC : Statement .ldLC := of_check rfl
theorem ldLD : Statement .ldLD := of_check rfl
theorem ldLE : Statement .ldLE := of_check rfl
theorem ldLH : Statement .ldLH := of_check rfl
theorem ldLL : Statement .ldLL := of_check rfl
theorem ldLAtHl : Statement .ldLAtHl := of_check rfl
theorem ldLA : Statement .ldLA := of_check rfl
theorem ldAtHlB : Statement .ldAtHlB := of_check rfl
theorem ldAtHlC : Statement .ldAtHlC := of_check rfl
theorem ldAtHlD : Statement .ldAtHlD := of_check rfl
theorem ldAtHlE : Statement .ldAtHlE := of_check rfl
theorem ldAtHlH : Statement .ldAtHlH := of_check rfl
theorem ldAtHlL : Statement .ldAtHlL := of_check rfl
theorem halt : Statement .halt := of_check rfl
theorem ldAtHlA : Statement .ldAtHlA := of_check rfl
theorem ldAB : Statement .ldAB := of_check rfl
theorem ldAC : Statement .ldAC := of_check rfl
theorem ldAD : Statement .ldAD := of_check rfl
theorem ldAE : Statement .ldAE := of_check rfl
theorem ldAH : Statement .ldAH := of_check rfl
theorem ldAL : Statement .ldAL := of_check rfl
theorem ldAAtHl : Statement .ldAAtHl := of_check rfl
theorem ldAA : Statement .ldAA := of_check rfl
theorem addAB : Statement .addAB := of_check rfl
theorem addAC : Statement .addAC := of_check rfl
theorem addAD : Statement .addAD := of_check rfl
theorem addAE : Statement .addAE := of_check rfl
theorem addAH : Statement .addAH := of_check rfl
theorem addAL : Statement .addAL := of_check rfl
theorem addAAtHl : Statement .addAAtHl := of_check rfl
theorem addAA : Statement .addAA := of_check rfl
theorem adcAB : Statement .adcAB := of_check rfl
theorem adcAC : Statement .adcAC := of_check rfl
theorem adcAD : Statement .adcAD := of_check rfl
theorem adcAE : Statement .adcAE := of_check rfl
theorem adcAH : Statement .adcAH := of_check rfl
theorem adcAL : Statement .adcAL := of_check rfl
theorem adcAAtHl : Statement .adcAAtHl := of_check rfl
theorem adcAA : Statement .adcAA := of_check rfl
theorem subB : Statement .subB := of_check rfl
theorem subC : Statement .subC := of_check rfl
theorem subD : Statement .subD := of_check rfl
theorem subE : Statement .subE := of_check rfl
theorem subH : Statement .subH := of_check rfl
theorem subL : Statement .subL := of_check rfl
theorem subAtHl : Statement .subAtHl := of_check rfl
theorem subA : Statement .subA := of_check rfl
theorem sbcAB : Statement .sbcAB := of_check rfl
theorem sbcAC : Statement .sbcAC := of_check rfl
theorem sbcAD : Statement .sbcAD := of_check rfl
theorem sbcAE : Statement .sbcAE := of_check rfl
theorem sbcAH : Statement .sbcAH := of_check rfl
theorem sbcAL : Statement .sbcAL := of_check rfl
theorem sbcAAtHl : Statement .sbcAAtHl := of_check rfl
theorem sbcAA : Statement .sbcAA := of_check rfl
theorem andB : Statement .andB := of_check rfl
theorem andC : Statement .andC := of_check rfl
theorem andD : Statement .andD := of_check rfl
theorem andE : Statement .andE := of_check rfl
theorem andH : Statement .andH := of_check rfl
theorem andL : Statement .andL := of_check rfl
theorem andAtHl : Statement .andAtHl := of_check rfl
theorem andA : Statement .andA := of_check rfl
theorem xorB : Statement .xorB := of_check rfl
theorem xorC : Statement .xorC := of_check rfl
theorem xorD : Statement .xorD := of_check rfl
theorem xorE : Statement .xorE := of_check rfl
theorem xorH : Statement .xorH := of_check rfl
theorem xorL : Statement .xorL := of_check rfl
theorem xorAtHl : Statement .xorAtHl := of_check rfl
theorem xorA : Statement .xorA := of_check rfl
theorem orB : Statement .orB := of_check rfl
theorem orC : Statement .orC := of_check rfl
theorem orD : Statement .orD := of_check rfl
theorem orE : Statement .orE := of_check rfl
theorem orH : Statement .orH := of_check rfl
theorem orL : Statement .orL := of_check rfl
theorem orAtHl : Statement .orAtHl := of_check rfl
theorem orA : Statement .orA := of_check rfl
theorem cpB : Statement .cpB := of_check rfl
theorem cpC : Statement .cpC := of_check rfl
theorem cpD : Statement .cpD := of_check rfl
theorem cpE : Statement .cpE := of_check rfl
theorem cpH : Statement .cpH := of_check rfl
theorem cpL : Statement .cpL := of_check rfl
theorem cpAtHl : Statement .cpAtHl := of_check rfl
theorem cpA : Statement .cpA := of_check rfl
theorem popBc : Statement .popBc := of_check rfl
theorem jpNzN16 (n16 : Word) : Statement (.jpNzN16 n16) := of_check rfl
theorem jpN16 (n16 : Word) : Statement (.jpN16 n16) := of_check rfl
theorem pushBc : Statement .pushBc := of_check rfl
theorem addAN8 (n8 : Byte) : Statement (.addAN8 n8) := of_check rfl
theorem rst00 : Statement .rst00 := of_check rfl
theorem ret : Statement .ret := of_check rfl
theorem jpZN16 (n16 : Word) : Statement (.jpZN16 n16) := of_check rfl
theorem callN16 (n16 : Word) : Statement (.callN16 n16) := of_check rfl
theorem adcAN8 (n8 : Byte) : Statement (.adcAN8 n8) := of_check rfl
theorem rst08 : Statement .rst08 := of_check rfl
theorem popDe : Statement .popDe := of_check rfl
theorem pushDe : Statement .pushDe := of_check rfl
theorem subN8 (n8 : Byte) : Statement (.subN8 n8) := of_check rfl
theorem rst10 : Statement .rst10 := of_check rfl
theorem reti : Statement .reti := of_check rfl
theorem sbcAN8 (n8 : Byte) : Statement (.sbcAN8 n8) := of_check rfl
theorem rst18 : Statement .rst18 := of_check rfl
theorem ldhAtN8A (n8 : Byte) : Statement (.ldhAtN8A n8) := of_check rfl
theorem popHl : Statement .popHl := of_check rfl
theorem ldAtCA : Statement .ldAtCA := of_check rfl
theorem pushHl : Statement .pushHl := of_check rfl
theorem andN8 (n8 : Byte) : Statement (.andN8 n8) := of_check rfl
theorem rst20 : Statement .rst20 := of_check rfl
theorem ldAtN16A (n16 : Word) : Statement (.ldAtN16A n16) := of_check rfl
theorem xorN8 (n8 : Byte) : Statement (.xorN8 n8) := of_check rfl
theorem rst28 : Statement .rst28 := of_check rfl
theorem ldhAAtN8 (n8 : Byte) : Statement (.ldhAAtN8 n8) := of_check rfl
theorem popAf : Statement .popAf := of_check rfl
theorem ldAAtC : Statement .ldAAtC := of_check rfl
theorem di : Statement .di := of_check rfl
theorem pushAf : Statement .pushAf := of_check rfl
theorem orN8 (n8 : Byte) : Statement (.orN8 n8) := of_check rfl
theorem rst30 : Statement .rst30 := of_check rfl
theorem ldAAtN16 (n16 : Word) : Statement (.ldAAtN16 n16) := of_check rfl
theorem ei : Statement .ei := of_check rfl
theorem cpN8 (n8 : Byte) : Statement (.cpN8 n8) := of_check rfl
theorem rst38 : Statement .rst38 := of_check rfl
theorem rlB : Statement .rlB := of_check rfl
theorem rlC : Statement .rlC := of_check rfl
theorem rlD : Statement .rlD := of_check rfl
theorem rlE : Statement .rlE := of_check rfl
theorem rlH : Statement .rlH := of_check rfl
theorem rlL : Statement .rlL := of_check rfl
theorem rlAtHl : Statement .rlAtHl := of_check rfl
theorem rlA : Statement .rlA := of_check rfl
theorem swapB : Statement .swapB := of_check rfl
theorem swapC : Statement .swapC := of_check rfl
theorem swapD : Statement .swapD := of_check rfl
theorem swapE : Statement .swapE := of_check rfl
theorem swapH : Statement .swapH := of_check rfl
theorem swapL : Statement .swapL := of_check rfl
theorem swapAtHl : Statement .swapAtHl := of_check rfl
theorem swapA : Statement .swapA := of_check rfl
theorem bit0B : Statement .bit0B := of_check rfl
theorem bit0C : Statement .bit0C := of_check rfl
theorem bit0D : Statement .bit0D := of_check rfl
theorem bit0E : Statement .bit0E := of_check rfl
theorem bit0H : Statement .bit0H := of_check rfl
theorem bit0L : Statement .bit0L := of_check rfl
theorem bit0AtHl : Statement .bit0AtHl := of_check rfl
theorem bit0A : Statement .bit0A := of_check rfl
theorem bit1B : Statement .bit1B := of_check rfl
theorem bit1C : Statement .bit1C := of_check rfl
theorem bit1D : Statement .bit1D := of_check rfl
theorem bit1E : Statement .bit1E := of_check rfl
theorem bit1H : Statement .bit1H := of_check rfl
theorem bit1L : Statement .bit1L := of_check rfl
theorem bit1AtHl : Statement .bit1AtHl := of_check rfl
theorem bit1A : Statement .bit1A := of_check rfl
theorem bit2B : Statement .bit2B := of_check rfl
theorem bit2C : Statement .bit2C := of_check rfl
theorem bit2D : Statement .bit2D := of_check rfl
theorem bit2E : Statement .bit2E := of_check rfl
theorem bit2H : Statement .bit2H := of_check rfl
theorem bit2L : Statement .bit2L := of_check rfl
theorem bit2AtHl : Statement .bit2AtHl := of_check rfl
theorem bit2A : Statement .bit2A := of_check rfl
theorem bit3B : Statement .bit3B := of_check rfl
theorem bit3C : Statement .bit3C := of_check rfl
theorem bit3D : Statement .bit3D := of_check rfl
theorem bit3E : Statement .bit3E := of_check rfl
theorem bit3H : Statement .bit3H := of_check rfl
theorem bit3L : Statement .bit3L := of_check rfl
theorem bit3AtHl : Statement .bit3AtHl := of_check rfl
theorem bit3A : Statement .bit3A := of_check rfl
theorem bit4B : Statement .bit4B := of_check rfl
theorem bit4C : Statement .bit4C := of_check rfl
theorem bit4D : Statement .bit4D := of_check rfl
theorem bit4E : Statement .bit4E := of_check rfl
theorem bit4H : Statement .bit4H := of_check rfl
theorem bit4L : Statement .bit4L := of_check rfl
theorem bit4AtHl : Statement .bit4AtHl := of_check rfl
theorem bit4A : Statement .bit4A := of_check rfl
theorem bit5B : Statement .bit5B := of_check rfl
theorem bit5C : Statement .bit5C := of_check rfl
theorem bit5D : Statement .bit5D := of_check rfl
theorem bit5E : Statement .bit5E := of_check rfl
theorem bit5H : Statement .bit5H := of_check rfl
theorem bit5L : Statement .bit5L := of_check rfl
theorem bit5AtHl : Statement .bit5AtHl := of_check rfl
theorem bit5A : Statement .bit5A := of_check rfl
theorem bit6B : Statement .bit6B := of_check rfl
theorem bit6C : Statement .bit6C := of_check rfl
theorem bit6D : Statement .bit6D := of_check rfl
theorem bit6E : Statement .bit6E := of_check rfl
theorem bit6H : Statement .bit6H := of_check rfl
theorem bit6L : Statement .bit6L := of_check rfl
theorem bit6AtHl : Statement .bit6AtHl := of_check rfl
theorem bit6A : Statement .bit6A := of_check rfl
theorem bit7B : Statement .bit7B := of_check rfl
theorem bit7C : Statement .bit7C := of_check rfl
theorem bit7D : Statement .bit7D := of_check rfl
theorem bit7E : Statement .bit7E := of_check rfl
theorem bit7H : Statement .bit7H := of_check rfl
theorem bit7L : Statement .bit7L := of_check rfl
theorem bit7AtHl : Statement .bit7AtHl := of_check rfl
theorem bit7A : Statement .bit7A := of_check rfl
theorem res0B : Statement .res0B := of_check rfl
theorem res0C : Statement .res0C := of_check rfl
theorem res0D : Statement .res0D := of_check rfl
theorem res0E : Statement .res0E := of_check rfl
theorem res0H : Statement .res0H := of_check rfl
theorem res0L : Statement .res0L := of_check rfl
theorem res0AtHl : Statement .res0AtHl := of_check rfl
theorem res0A : Statement .res0A := of_check rfl
theorem res1B : Statement .res1B := of_check rfl
theorem res1C : Statement .res1C := of_check rfl
theorem res1D : Statement .res1D := of_check rfl
theorem res1E : Statement .res1E := of_check rfl
theorem res1H : Statement .res1H := of_check rfl
theorem res1L : Statement .res1L := of_check rfl
theorem res1AtHl : Statement .res1AtHl := of_check rfl
theorem res1A : Statement .res1A := of_check rfl
theorem res2B : Statement .res2B := of_check rfl
theorem res2C : Statement .res2C := of_check rfl
theorem res2D : Statement .res2D := of_check rfl
theorem res2E : Statement .res2E := of_check rfl
theorem res2H : Statement .res2H := of_check rfl
theorem res2L : Statement .res2L := of_check rfl
theorem res2AtHl : Statement .res2AtHl := of_check rfl
theorem res2A : Statement .res2A := of_check rfl
theorem res3B : Statement .res3B := of_check rfl
theorem res3C : Statement .res3C := of_check rfl
theorem res3D : Statement .res3D := of_check rfl
theorem res3E : Statement .res3E := of_check rfl
theorem res3H : Statement .res3H := of_check rfl
theorem res3L : Statement .res3L := of_check rfl
theorem res3AtHl : Statement .res3AtHl := of_check rfl
theorem res3A : Statement .res3A := of_check rfl
theorem res4B : Statement .res4B := of_check rfl
theorem res4C : Statement .res4C := of_check rfl
theorem res4D : Statement .res4D := of_check rfl
theorem res4E : Statement .res4E := of_check rfl
theorem res4H : Statement .res4H := of_check rfl
theorem res4L : Statement .res4L := of_check rfl
theorem res4AtHl : Statement .res4AtHl := of_check rfl
theorem res4A : Statement .res4A := of_check rfl
theorem res5B : Statement .res5B := of_check rfl
theorem res5C : Statement .res5C := of_check rfl
theorem res5D : Statement .res5D := of_check rfl
theorem res5E : Statement .res5E := of_check rfl
theorem res5H : Statement .res5H := of_check rfl
theorem res5L : Statement .res5L := of_check rfl
theorem res5AtHl : Statement .res5AtHl := of_check rfl
theorem res5A : Statement .res5A := of_check rfl
theorem res6B : Statement .res6B := of_check rfl
theorem res6C : Statement .res6C := of_check rfl
theorem res6D : Statement .res6D := of_check rfl
theorem res6E : Statement .res6E := of_check rfl
theorem res6H : Statement .res6H := of_check rfl
theorem res6L : Statement .res6L := of_check rfl
theorem res6AtHl : Statement .res6AtHl := of_check rfl
theorem res6A : Statement .res6A := of_check rfl
theorem res7B : Statement .res7B := of_check rfl
theorem res7C : Statement .res7C := of_check rfl
theorem res7D : Statement .res7D := of_check rfl
theorem res7E : Statement .res7E := of_check rfl
theorem res7H : Statement .res7H := of_check rfl
theorem res7L : Statement .res7L := of_check rfl
theorem res7AtHl : Statement .res7AtHl := of_check rfl
theorem res7A : Statement .res7A := of_check rfl

end Sys2Proof.Laws.Encoding
end

