-- ==== Sys2Proof/Laws/Decode.lean ====
section
/-! SUPPORT. How `ADMIT_INFERRED` acts on the decoder: it only turns the marked bytes of R104 into illegal ones. -/

namespace Sys2Proof

open Sys2Proof.Laws.Encoding (marked)

/-- With the switch off, a byte that is not marked decodes as with it on. -/
theorem decode_false_of_unmarked {b0 b1 : Byte} (b2 : Byte) (h : marked [b0, b1] = false) :
    decode false b0 b1 b2 = decode true b0 b1 b2 := by
  simp only [marked] at h
  unfold decode
  split
  · next h0 =>
    rw [if_pos h0] at h
    simp only [decodeExtended, List.getD_cons_zero] at h ⊢
    simp only [h, Bool.not_false, Bool.or_true, if_true]
  · next h0 =>
    rw [if_neg h0] at h
    simp only [decodePrimary, h, Bool.not_false, Bool.or_true, if_true]

/-- With the switch off, a marked byte is illegal. -/
theorem decode_false_of_marked {b0 b1 : Byte} (b2 : Byte) (h : marked [b0, b1] = true) :
    decode false b0 b1 b2 = if b0 = prefixByte then .illegal .extended b1 2 else .illegal .primary b0 1 := by
  simp only [marked] at h
  unfold decode
  split
  · next h0 =>
    rw [if_pos h0] at h
    simp only [decodeExtended, List.getD_cons_zero] at h ⊢
    simp only [h, Bool.not_true, Bool.or_self, Bool.false_eq_true, if_false]
  · next h0 =>
    rw [if_neg h0] at h
    simp only [decodePrimary, h, Bool.not_true, Bool.or_self, Bool.false_eq_true, if_false]

end Sys2Proof
end

