-- ==== Sys2Proof/Laws/Exec.lean ====
section
/-! SUPPORT. What `exec` does on a family of the table: its shared operation, for every member of the family. -/

namespace Sys2Proof.Machine

@[simp] theorem exec_ldReg (rd : Reg8) (rs : Reg8) (s : State) : exec (Instr.ldReg rd rs) s = ldReg rd rs s := by
  cases rd <;> cases rs <;> rfl

@[simp] theorem exec_ldRegMem (r : Reg8) (s : State) : exec (Instr.ldRegMem r) s = ldRegMem r s := by
  cases r <;> rfl

@[simp] theorem exec_ldMemReg (r : Reg8) (s : State) : exec (Instr.ldMemReg r) s = ldMemReg r s := by
  cases r <;> rfl

@[simp] theorem exec_ldRegN8 (r : Reg8) (n8 : Byte) (s : State) : exec (Instr.ldRegN8 r n8) s = ldRegN8 r n8 s := by
  cases r <;> rfl

@[simp] theorem exec_aluReg (op : AluOp) (r : Reg8) (s : State) : exec (Instr.aluReg op r) s = aluReg op r s := by
  cases op <;> cases r <;> rfl

@[simp] theorem exec_aluMem (op : AluOp) (s : State) : exec (Instr.aluMem op) s = aluMem op s := by
  cases op <;> rfl

@[simp] theorem exec_aluN8 (op : AluOp) (n8 : Byte) (s : State) : exec (Instr.aluN8 op n8) s = aluN8 op n8 s := by
  cases op <;> rfl

@[simp] theorem exec_incReg (r : Reg8) (s : State) : exec (Instr.incReg r) s = incReg r s := by
  cases r <;> rfl

@[simp] theorem exec_decReg (r : Reg8) (s : State) : exec (Instr.decReg r) s = decReg r s := by
  cases r <;> rfl

@[simp] theorem exec_ldPairN16 (p : Pair) (n16 : Word) (s : State) : exec (Instr.ldPairN16 p n16) s = ldPairN16 p n16 s := by
  cases p <;> rfl

@[simp] theorem exec_incPair (p : Pair) (s : State) : exec (Instr.incPair p) s = incPair p s := by
  cases p <;> rfl

@[simp] theorem exec_decPair (p : Pair) (s : State) : exec (Instr.decPair p) s = decPair p s := by
  cases p <;> rfl

@[simp] theorem exec_addHlPair (p : Pair) (s : State) : exec (Instr.addHlPair p) s = addHlPair p s := by
  cases p <;> rfl

@[simp] theorem exec_jrCc (cc : Cond) (e8 : Byte) (s : State) : exec (Instr.jrCc cc e8) s = jrCc cc e8 s := by
  cases cc <;> rfl

@[simp] theorem exec_jpCc (cc : Cond) (n16 : Word) (s : State) : exec (Instr.jpCc cc n16) s = jpCc cc n16 s := by
  cases cc <;> rfl

@[simp] theorem exec_push (q : StackPair) (s : State) : exec (Instr.push q) s = push q s := by
  cases q <;> rfl

@[simp] theorem exec_pop (q : StackPair) (s : State) : exec (Instr.pop q) s = pop q s := by
  cases q <;> rfl

@[simp] theorem exec_rst (t : Fin 8) (s : State) : exec (Instr.rst t) s = rst t s := by
  fin_cases t <;> rfl

@[simp] theorem exec_rlReg (r : Reg8) (s : State) : exec (Instr.rlReg r) s = rlReg r s := by
  cases r <;> rfl

@[simp] theorem exec_swapReg (r : Reg8) (s : State) : exec (Instr.swapReg r) s = swapReg r s := by
  cases r <;> rfl

@[simp] theorem exec_bitReg (b : Fin 8) (r : Reg8) (s : State) : exec (Instr.bitReg b r) s = bitReg b r s := by
  cases r <;> fin_cases b <;> rfl

@[simp] theorem exec_bitMem (b : Fin 8) (s : State) : exec (Instr.bitMem b) s = bitMem b s := by
  fin_cases b <;> rfl

@[simp] theorem exec_resReg (b : Fin 8) (r : Reg8) (s : State) : exec (Instr.resReg b r) s = resReg b r s := by
  cases r <;> fin_cases b <;> rfl

@[simp] theorem exec_resMem (b : Fin 8) (s : State) : exec (Instr.resMem b) s = resMem b s := by
  fin_cases b <;> rfl

end Sys2Proof.Machine
end

