-- ==== Sys2Proof/Laws/State.lean ====
section
/-! SUPPORT. What each update of one part of the state does to each part: one lemma per field per update. -/

namespace Sys2Proof.Machine

variable (s : State)

@[simp] theorem State.setF_a (v : Byte) : (s.setF v).a = s.a := rfl
@[simp] theorem State.setF_f (v : Byte) : (s.setF v).f = v := rfl
@[simp] theorem State.setF_b (v : Byte) : (s.setF v).b = s.b := rfl
@[simp] theorem State.setF_c (v : Byte) : (s.setF v).c = s.c := rfl
@[simp] theorem State.setF_d (v : Byte) : (s.setF v).d = s.d := rfl
@[simp] theorem State.setF_e (v : Byte) : (s.setF v).e = s.e := rfl
@[simp] theorem State.setF_h (v : Byte) : (s.setF v).h = s.h := rfl
@[simp] theorem State.setF_l (v : Byte) : (s.setF v).l = s.l := rfl
@[simp] theorem State.setF_sp (v : Byte) : (s.setF v).sp = s.sp := rfl
@[simp] theorem State.setF_pc (v : Byte) : (s.setF v).pc = s.pc := rfl
@[simp] theorem State.setF_ime (v : Byte) : (s.setF v).ime = s.ime := rfl
@[simp] theorem State.setF_halted (v : Byte) : (s.setF v).halted = s.halted := rfl
@[simp] theorem State.setF_fault (v : Byte) : (s.setF v).fault = s.fault := rfl
@[simp] theorem State.setF_mem (v : Byte) : (s.setF v).mem = s.mem := rfl
@[simp] theorem State.setF_ly (v : Byte) : (s.setF v).ly = s.ly := rfl
@[simp] theorem State.setF_acc (v : Byte) : (s.setF v).acc = s.acc := rfl
@[simp] theorem State.setF_back (v : Byte) : (s.setF v).back = s.back := rfl
@[simp] theorem State.setF_front (v : Byte) : (s.setF v).front = s.front := rfl
@[simp] theorem State.setF_params (v : Byte) : (s.setF v).params = s.params := rfl
@[simp] theorem State.setF_cycles (v : Byte) : (s.setF v).cycles = s.cycles := rfl
@[simp] theorem State.setF_extra (v : Byte) : (s.setF v).extra = s.extra := rfl
@[simp] theorem State.setF_reg (v : Byte) (r : Reg8) : (s.setF v).reg r = s.reg r := by cases r <;> rfl

@[simp] theorem State.setSp_a (v : Word) : (s.setSp v).a = s.a := rfl
@[simp] theorem State.setSp_f (v : Word) : (s.setSp v).f = s.f := rfl
@[simp] theorem State.setSp_b (v : Word) : (s.setSp v).b = s.b := rfl
@[simp] theorem State.setSp_c (v : Word) : (s.setSp v).c = s.c := rfl
@[simp] theorem State.setSp_d (v : Word) : (s.setSp v).d = s.d := rfl
@[simp] theorem State.setSp_e (v : Word) : (s.setSp v).e = s.e := rfl
@[simp] theorem State.setSp_h (v : Word) : (s.setSp v).h = s.h := rfl
@[simp] theorem State.setSp_l (v : Word) : (s.setSp v).l = s.l := rfl
@[simp] theorem State.setSp_sp (v : Word) : (s.setSp v).sp = v := rfl
@[simp] theorem State.setSp_pc (v : Word) : (s.setSp v).pc = s.pc := rfl
@[simp] theorem State.setSp_ime (v : Word) : (s.setSp v).ime = s.ime := rfl
@[simp] theorem State.setSp_halted (v : Word) : (s.setSp v).halted = s.halted := rfl
@[simp] theorem State.setSp_fault (v : Word) : (s.setSp v).fault = s.fault := rfl
@[simp] theorem State.setSp_mem (v : Word) : (s.setSp v).mem = s.mem := rfl
@[simp] theorem State.setSp_ly (v : Word) : (s.setSp v).ly = s.ly := rfl
@[simp] theorem State.setSp_acc (v : Word) : (s.setSp v).acc = s.acc := rfl
@[simp] theorem State.setSp_back (v : Word) : (s.setSp v).back = s.back := rfl
@[simp] theorem State.setSp_front (v : Word) : (s.setSp v).front = s.front := rfl
@[simp] theorem State.setSp_params (v : Word) : (s.setSp v).params = s.params := rfl
@[simp] theorem State.setSp_cycles (v : Word) : (s.setSp v).cycles = s.cycles := rfl
@[simp] theorem State.setSp_extra (v : Word) : (s.setSp v).extra = s.extra := rfl
@[simp] theorem State.setSp_reg (v : Word) (r : Reg8) : (s.setSp v).reg r = s.reg r := by cases r <;> rfl

@[simp] theorem State.setPc_a (v : Word) : (s.setPc v).a = s.a := rfl
@[simp] theorem State.setPc_f (v : Word) : (s.setPc v).f = s.f := rfl
@[simp] theorem State.setPc_b (v : Word) : (s.setPc v).b = s.b := rfl
@[simp] theorem State.setPc_c (v : Word) : (s.setPc v).c = s.c := rfl
@[simp] theorem State.setPc_d (v : Word) : (s.setPc v).d = s.d := rfl
@[simp] theorem State.setPc_e (v : Word) : (s.setPc v).e = s.e := rfl
@[simp] theorem State.setPc_h (v : Word) : (s.setPc v).h = s.h := rfl
@[simp] theorem State.setPc_l (v : Word) : (s.setPc v).l = s.l := rfl
@[simp] theorem State.setPc_sp (v : Word) : (s.setPc v).sp = s.sp := rfl
@[simp] theorem State.setPc_pc (v : Word) : (s.setPc v).pc = v := rfl
@[simp] theorem State.setPc_ime (v : Word) : (s.setPc v).ime = s.ime := rfl
@[simp] theorem State.setPc_halted (v : Word) : (s.setPc v).halted = s.halted := rfl
@[simp] theorem State.setPc_fault (v : Word) : (s.setPc v).fault = s.fault := rfl
@[simp] theorem State.setPc_mem (v : Word) : (s.setPc v).mem = s.mem := rfl
@[simp] theorem State.setPc_ly (v : Word) : (s.setPc v).ly = s.ly := rfl
@[simp] theorem State.setPc_acc (v : Word) : (s.setPc v).acc = s.acc := rfl
@[simp] theorem State.setPc_back (v : Word) : (s.setPc v).back = s.back := rfl
@[simp] theorem State.setPc_front (v : Word) : (s.setPc v).front = s.front := rfl
@[simp] theorem State.setPc_params (v : Word) : (s.setPc v).params = s.params := rfl
@[simp] theorem State.setPc_cycles (v : Word) : (s.setPc v).cycles = s.cycles := rfl
@[simp] theorem State.setPc_extra (v : Word) : (s.setPc v).extra = s.extra := rfl
@[simp] theorem State.setPc_reg (v : Word) (r : Reg8) : (s.setPc v).reg r = s.reg r := by cases r <;> rfl

@[simp] theorem State.setIme_a (v : Bool) : (s.setIme v).a = s.a := rfl
@[simp] theorem State.setIme_f (v : Bool) : (s.setIme v).f = s.f := rfl
@[simp] theorem State.setIme_b (v : Bool) : (s.setIme v).b = s.b := rfl
@[simp] theorem State.setIme_c (v : Bool) : (s.setIme v).c = s.c := rfl
@[simp] theorem State.setIme_d (v : Bool) : (s.setIme v).d = s.d := rfl
@[simp] theorem State.setIme_e (v : Bool) : (s.setIme v).e = s.e := rfl
@[simp] theorem State.setIme_h (v : Bool) : (s.setIme v).h = s.h := rfl
@[simp] theorem State.setIme_l (v : Bool) : (s.setIme v).l = s.l := rfl
@[simp] theorem State.setIme_sp (v : Bool) : (s.setIme v).sp = s.sp := rfl
@[simp] theorem State.setIme_pc (v : Bool) : (s.setIme v).pc = s.pc := rfl
@[simp] theorem State.setIme_ime (v : Bool) : (s.setIme v).ime = v := rfl
@[simp] theorem State.setIme_halted (v : Bool) : (s.setIme v).halted = s.halted := rfl
@[simp] theorem State.setIme_fault (v : Bool) : (s.setIme v).fault = s.fault := rfl
@[simp] theorem State.setIme_mem (v : Bool) : (s.setIme v).mem = s.mem := rfl
@[simp] theorem State.setIme_ly (v : Bool) : (s.setIme v).ly = s.ly := rfl
@[simp] theorem State.setIme_acc (v : Bool) : (s.setIme v).acc = s.acc := rfl
@[simp] theorem State.setIme_back (v : Bool) : (s.setIme v).back = s.back := rfl
@[simp] theorem State.setIme_front (v : Bool) : (s.setIme v).front = s.front := rfl
@[simp] theorem State.setIme_params (v : Bool) : (s.setIme v).params = s.params := rfl
@[simp] theorem State.setIme_cycles (v : Bool) : (s.setIme v).cycles = s.cycles := rfl
@[simp] theorem State.setIme_extra (v : Bool) : (s.setIme v).extra = s.extra := rfl
@[simp] theorem State.setIme_reg (v : Bool) (r : Reg8) : (s.setIme v).reg r = s.reg r := by cases r <;> rfl

@[simp] theorem State.setHalted_a (v : Bool) : (s.setHalted v).a = s.a := rfl
@[simp] theorem State.setHalted_f (v : Bool) : (s.setHalted v).f = s.f := rfl
@[simp] theorem State.setHalted_b (v : Bool) : (s.setHalted v).b = s.b := rfl
@[simp] theorem State.setHalted_c (v : Bool) : (s.setHalted v).c = s.c := rfl
@[simp] theorem State.setHalted_d (v : Bool) : (s.setHalted v).d = s.d := rfl
@[simp] theorem State.setHalted_e (v : Bool) : (s.setHalted v).e = s.e := rfl
@[simp] theorem State.setHalted_h (v : Bool) : (s.setHalted v).h = s.h := rfl
@[simp] theorem State.setHalted_l (v : Bool) : (s.setHalted v).l = s.l := rfl
@[simp] theorem State.setHalted_sp (v : Bool) : (s.setHalted v).sp = s.sp := rfl
@[simp] theorem State.setHalted_pc (v : Bool) : (s.setHalted v).pc = s.pc := rfl
@[simp] theorem State.setHalted_ime (v : Bool) : (s.setHalted v).ime = s.ime := rfl
@[simp] theorem State.setHalted_halted (v : Bool) : (s.setHalted v).halted = v := rfl
@[simp] theorem State.setHalted_fault (v : Bool) : (s.setHalted v).fault = s.fault := rfl
@[simp] theorem State.setHalted_mem (v : Bool) : (s.setHalted v).mem = s.mem := rfl
@[simp] theorem State.setHalted_ly (v : Bool) : (s.setHalted v).ly = s.ly := rfl
@[simp] theorem State.setHalted_acc (v : Bool) : (s.setHalted v).acc = s.acc := rfl
@[simp] theorem State.setHalted_back (v : Bool) : (s.setHalted v).back = s.back := rfl
@[simp] theorem State.setHalted_front (v : Bool) : (s.setHalted v).front = s.front := rfl
@[simp] theorem State.setHalted_params (v : Bool) : (s.setHalted v).params = s.params := rfl
@[simp] theorem State.setHalted_cycles (v : Bool) : (s.setHalted v).cycles = s.cycles := rfl
@[simp] theorem State.setHalted_extra (v : Bool) : (s.setHalted v).extra = s.extra := rfl
@[simp] theorem State.setHalted_reg (v : Bool) (r : Reg8) : (s.setHalted v).reg r = s.reg r := by cases r <;> rfl

@[simp] theorem State.setFault_a (v : Option IllegalInstruction) : (s.setFault v).a = s.a := rfl
@[simp] theorem State.setFault_f (v : Option IllegalInstruction) : (s.setFault v).f = s.f := rfl
@[simp] theorem State.setFault_b (v : Option IllegalInstruction) : (s.setFault v).b = s.b := rfl
@[simp] theorem State.setFault_c (v : Option IllegalInstruction) : (s.setFault v).c = s.c := rfl
@[simp] theorem State.setFault_d (v : Option IllegalInstruction) : (s.setFault v).d = s.d := rfl
@[simp] theorem State.setFault_e (v : Option IllegalInstruction) : (s.setFault v).e = s.e := rfl
@[simp] theorem State.setFault_h (v : Option IllegalInstruction) : (s.setFault v).h = s.h := rfl
@[simp] theorem State.setFault_l (v : Option IllegalInstruction) : (s.setFault v).l = s.l := rfl
@[simp] theorem State.setFault_sp (v : Option IllegalInstruction) : (s.setFault v).sp = s.sp := rfl
@[simp] theorem State.setFault_pc (v : Option IllegalInstruction) : (s.setFault v).pc = s.pc := rfl
@[simp] theorem State.setFault_ime (v : Option IllegalInstruction) : (s.setFault v).ime = s.ime := rfl
@[simp] theorem State.setFault_halted (v : Option IllegalInstruction) : (s.setFault v).halted = s.halted := rfl
@[simp] theorem State.setFault_fault (v : Option IllegalInstruction) : (s.setFault v).fault = v := rfl
@[simp] theorem State.setFault_mem (v : Option IllegalInstruction) : (s.setFault v).mem = s.mem := rfl
@[simp] theorem State.setFault_ly (v : Option IllegalInstruction) : (s.setFault v).ly = s.ly := rfl
@[simp] theorem State.setFault_acc (v : Option IllegalInstruction) : (s.setFault v).acc = s.acc := rfl
@[simp] theorem State.setFault_back (v : Option IllegalInstruction) : (s.setFault v).back = s.back := rfl
@[simp] theorem State.setFault_front (v : Option IllegalInstruction) : (s.setFault v).front = s.front := rfl
@[simp] theorem State.setFault_params (v : Option IllegalInstruction) : (s.setFault v).params = s.params := rfl
@[simp] theorem State.setFault_cycles (v : Option IllegalInstruction) : (s.setFault v).cycles = s.cycles := rfl
@[simp] theorem State.setFault_extra (v : Option IllegalInstruction) : (s.setFault v).extra = s.extra := rfl
@[simp] theorem State.setFault_reg (v : Option IllegalInstruction) (r : Reg8) : (s.setFault v).reg r = s.reg r := by cases r <;> rfl

@[simp] theorem State.setMem_a (v : Memory) : (s.setMem v).a = s.a := rfl
@[simp] theorem State.setMem_f (v : Memory) : (s.setMem v).f = s.f := rfl
@[simp] theorem State.setMem_b (v : Memory) : (s.setMem v).b = s.b := rfl
@[simp] theorem State.setMem_c (v : Memory) : (s.setMem v).c = s.c := rfl
@[simp] theorem State.setMem_d (v : Memory) : (s.setMem v).d = s.d := rfl
@[simp] theorem State.setMem_e (v : Memory) : (s.setMem v).e = s.e := rfl
@[simp] theorem State.setMem_h (v : Memory) : (s.setMem v).h = s.h := rfl
@[simp] theorem State.setMem_l (v : Memory) : (s.setMem v).l = s.l := rfl
@[simp] theorem State.setMem_sp (v : Memory) : (s.setMem v).sp = s.sp := rfl
@[simp] theorem State.setMem_pc (v : Memory) : (s.setMem v).pc = s.pc := rfl
@[simp] theorem State.setMem_ime (v : Memory) : (s.setMem v).ime = s.ime := rfl
@[simp] theorem State.setMem_halted (v : Memory) : (s.setMem v).halted = s.halted := rfl
@[simp] theorem State.setMem_fault (v : Memory) : (s.setMem v).fault = s.fault := rfl
@[simp] theorem State.setMem_mem (v : Memory) : (s.setMem v).mem = v := rfl
@[simp] theorem State.setMem_ly (v : Memory) : (s.setMem v).ly = s.ly := rfl
@[simp] theorem State.setMem_acc (v : Memory) : (s.setMem v).acc = s.acc := rfl
@[simp] theorem State.setMem_back (v : Memory) : (s.setMem v).back = s.back := rfl
@[simp] theorem State.setMem_front (v : Memory) : (s.setMem v).front = s.front := rfl
@[simp] theorem State.setMem_params (v : Memory) : (s.setMem v).params = s.params := rfl
@[simp] theorem State.setMem_cycles (v : Memory) : (s.setMem v).cycles = s.cycles := rfl
@[simp] theorem State.setMem_extra (v : Memory) : (s.setMem v).extra = s.extra := rfl
@[simp] theorem State.setMem_reg (v : Memory) (r : Reg8) : (s.setMem v).reg r = s.reg r := by cases r <;> rfl

@[simp] theorem State.setLy_a (v : Byte) : (s.setLy v).a = s.a := rfl
@[simp] theorem State.setLy_f (v : Byte) : (s.setLy v).f = s.f := rfl
@[simp] theorem State.setLy_b (v : Byte) : (s.setLy v).b = s.b := rfl
@[simp] theorem State.setLy_c (v : Byte) : (s.setLy v).c = s.c := rfl
@[simp] theorem State.setLy_d (v : Byte) : (s.setLy v).d = s.d := rfl
@[simp] theorem State.setLy_e (v : Byte) : (s.setLy v).e = s.e := rfl
@[simp] theorem State.setLy_h (v : Byte) : (s.setLy v).h = s.h := rfl
@[simp] theorem State.setLy_l (v : Byte) : (s.setLy v).l = s.l := rfl
@[simp] theorem State.setLy_sp (v : Byte) : (s.setLy v).sp = s.sp := rfl
@[simp] theorem State.setLy_pc (v : Byte) : (s.setLy v).pc = s.pc := rfl
@[simp] theorem State.setLy_ime (v : Byte) : (s.setLy v).ime = s.ime := rfl
@[simp] theorem State.setLy_halted (v : Byte) : (s.setLy v).halted = s.halted := rfl
@[simp] theorem State.setLy_fault (v : Byte) : (s.setLy v).fault = s.fault := rfl
@[simp] theorem State.setLy_mem (v : Byte) : (s.setLy v).mem = s.mem := rfl
@[simp] theorem State.setLy_ly (v : Byte) : (s.setLy v).ly = v := rfl
@[simp] theorem State.setLy_acc (v : Byte) : (s.setLy v).acc = s.acc := rfl
@[simp] theorem State.setLy_back (v : Byte) : (s.setLy v).back = s.back := rfl
@[simp] theorem State.setLy_front (v : Byte) : (s.setLy v).front = s.front := rfl
@[simp] theorem State.setLy_params (v : Byte) : (s.setLy v).params = s.params := rfl
@[simp] theorem State.setLy_cycles (v : Byte) : (s.setLy v).cycles = s.cycles := rfl
@[simp] theorem State.setLy_extra (v : Byte) : (s.setLy v).extra = s.extra := rfl
@[simp] theorem State.setLy_reg (v : Byte) (r : Reg8) : (s.setLy v).reg r = s.reg r := by cases r <;> rfl

@[simp] theorem State.setAcc_a (v : Nat) : (s.setAcc v).a = s.a := rfl
@[simp] theorem State.setAcc_f (v : Nat) : (s.setAcc v).f = s.f := rfl
@[simp] theorem State.setAcc_b (v : Nat) : (s.setAcc v).b = s.b := rfl
@[simp] theorem State.setAcc_c (v : Nat) : (s.setAcc v).c = s.c := rfl
@[simp] theorem State.setAcc_d (v : Nat) : (s.setAcc v).d = s.d := rfl
@[simp] theorem State.setAcc_e (v : Nat) : (s.setAcc v).e = s.e := rfl
@[simp] theorem State.setAcc_h (v : Nat) : (s.setAcc v).h = s.h := rfl
@[simp] theorem State.setAcc_l (v : Nat) : (s.setAcc v).l = s.l := rfl
@[simp] theorem State.setAcc_sp (v : Nat) : (s.setAcc v).sp = s.sp := rfl
@[simp] theorem State.setAcc_pc (v : Nat) : (s.setAcc v).pc = s.pc := rfl
@[simp] theorem State.setAcc_ime (v : Nat) : (s.setAcc v).ime = s.ime := rfl
@[simp] theorem State.setAcc_halted (v : Nat) : (s.setAcc v).halted = s.halted := rfl
@[simp] theorem State.setAcc_fault (v : Nat) : (s.setAcc v).fault = s.fault := rfl
@[simp] theorem State.setAcc_mem (v : Nat) : (s.setAcc v).mem = s.mem := rfl
@[simp] theorem State.setAcc_ly (v : Nat) : (s.setAcc v).ly = s.ly := rfl
@[simp] theorem State.setAcc_acc (v : Nat) : (s.setAcc v).acc = v := rfl
@[simp] theorem State.setAcc_back (v : Nat) : (s.setAcc v).back = s.back := rfl
@[simp] theorem State.setAcc_front (v : Nat) : (s.setAcc v).front = s.front := rfl
@[simp] theorem State.setAcc_params (v : Nat) : (s.setAcc v).params = s.params := rfl
@[simp] theorem State.setAcc_cycles (v : Nat) : (s.setAcc v).cycles = s.cycles := rfl
@[simp] theorem State.setAcc_extra (v : Nat) : (s.setAcc v).extra = s.extra := rfl
@[simp] theorem State.setAcc_reg (v : Nat) (r : Reg8) : (s.setAcc v).reg r = s.reg r := by cases r <;> rfl

@[simp] theorem State.setBack_a (v : FrameBuffer) : (s.setBack v).a = s.a := rfl
@[simp] theorem State.setBack_f (v : FrameBuffer) : (s.setBack v).f = s.f := rfl
@[simp] theorem State.setBack_b (v : FrameBuffer) : (s.setBack v).b = s.b := rfl
@[simp] theorem State.setBack_c (v : FrameBuffer) : (s.setBack v).c = s.c := rfl
@[simp] theorem State.setBack_d (v : FrameBuffer) : (s.setBack v).d = s.d := rfl
@[simp] theorem State.setBack_e (v : FrameBuffer) : (s.setBack v).e = s.e := rfl
@[simp] theorem State.setBack_h (v : FrameBuffer) : (s.setBack v).h = s.h := rfl
@[simp] theorem State.setBack_l (v : FrameBuffer) : (s.setBack v).l = s.l := rfl
@[simp] theorem State.setBack_sp (v : FrameBuffer) : (s.setBack v).sp = s.sp := rfl
@[simp] theorem State.setBack_pc (v : FrameBuffer) : (s.setBack v).pc = s.pc := rfl
@[simp] theorem State.setBack_ime (v : FrameBuffer) : (s.setBack v).ime = s.ime := rfl
@[simp] theorem State.setBack_halted (v : FrameBuffer) : (s.setBack v).halted = s.halted := rfl
@[simp] theorem State.setBack_fault (v : FrameBuffer) : (s.setBack v).fault = s.fault := rfl
@[simp] theorem State.setBack_mem (v : FrameBuffer) : (s.setBack v).mem = s.mem := rfl
@[simp] theorem State.setBack_ly (v : FrameBuffer) : (s.setBack v).ly = s.ly := rfl
@[simp] theorem State.setBack_acc (v : FrameBuffer) : (s.setBack v).acc = s.acc := rfl
@[simp] theorem State.setBack_back (v : FrameBuffer) : (s.setBack v).back = v := rfl
@[simp] theorem State.setBack_front (v : FrameBuffer) : (s.setBack v).front = s.front := rfl
@[simp] theorem State.setBack_params (v : FrameBuffer) : (s.setBack v).params = s.params := rfl
@[simp] theorem State.setBack_cycles (v : FrameBuffer) : (s.setBack v).cycles = s.cycles := rfl
@[simp] theorem State.setBack_extra (v : FrameBuffer) : (s.setBack v).extra = s.extra := rfl
@[simp] theorem State.setBack_reg (v : FrameBuffer) (r : Reg8) : (s.setBack v).reg r = s.reg r := by cases r <;> rfl

@[simp] theorem State.setFront_a (v : FrameBuffer) : (s.setFront v).a = s.a := rfl
@[simp] theorem State.setFront_f (v : FrameBuffer) : (s.setFront v).f = s.f := rfl
@[simp] theorem State.setFront_b (v : FrameBuffer) : (s.setFront v).b = s.b := rfl
@[simp] theorem State.setFront_c (v : FrameBuffer) : (s.setFront v).c = s.c := rfl
@[simp] theorem State.setFront_d (v : FrameBuffer) : (s.setFront v).d = s.d := rfl
@[simp] theorem State.setFront_e (v : FrameBuffer) : (s.setFront v).e = s.e := rfl
@[simp] theorem State.setFront_h (v : FrameBuffer) : (s.setFront v).h = s.h := rfl
@[simp] theorem State.setFront_l (v : FrameBuffer) : (s.setFront v).l = s.l := rfl
@[simp] theorem State.setFront_sp (v : FrameBuffer) : (s.setFront v).sp = s.sp := rfl
@[simp] theorem State.setFront_pc (v : FrameBuffer) : (s.setFront v).pc = s.pc := rfl
@[simp] theorem State.setFront_ime (v : FrameBuffer) : (s.setFront v).ime = s.ime := rfl
@[simp] theorem State.setFront_halted (v : FrameBuffer) : (s.setFront v).halted = s.halted := rfl
@[simp] theorem State.setFront_fault (v : FrameBuffer) : (s.setFront v).fault = s.fault := rfl
@[simp] theorem State.setFront_mem (v : FrameBuffer) : (s.setFront v).mem = s.mem := rfl
@[simp] theorem State.setFront_ly (v : FrameBuffer) : (s.setFront v).ly = s.ly := rfl
@[simp] theorem State.setFront_acc (v : FrameBuffer) : (s.setFront v).acc = s.acc := rfl
@[simp] theorem State.setFront_back (v : FrameBuffer) : (s.setFront v).back = s.back := rfl
@[simp] theorem State.setFront_front (v : FrameBuffer) : (s.setFront v).front = v := rfl
@[simp] theorem State.setFront_params (v : FrameBuffer) : (s.setFront v).params = s.params := rfl
@[simp] theorem State.setFront_cycles (v : FrameBuffer) : (s.setFront v).cycles = s.cycles := rfl
@[simp] theorem State.setFront_extra (v : FrameBuffer) : (s.setFront v).extra = s.extra := rfl
@[simp] theorem State.setFront_reg (v : FrameBuffer) (r : Reg8) : (s.setFront v).reg r = s.reg r := by cases r <;> rfl

@[simp] theorem State.setCycles_a (v : Nat) : (s.setCycles v).a = s.a := rfl
@[simp] theorem State.setCycles_f (v : Nat) : (s.setCycles v).f = s.f := rfl
@[simp] theorem State.setCycles_b (v : Nat) : (s.setCycles v).b = s.b := rfl
@[simp] theorem State.setCycles_c (v : Nat) : (s.setCycles v).c = s.c := rfl
@[simp] theorem State.setCycles_d (v : Nat) : (s.setCycles v).d = s.d := rfl
@[simp] theorem State.setCycles_e (v : Nat) : (s.setCycles v).e = s.e := rfl
@[simp] theorem State.setCycles_h (v : Nat) : (s.setCycles v).h = s.h := rfl
@[simp] theorem State.setCycles_l (v : Nat) : (s.setCycles v).l = s.l := rfl
@[simp] theorem State.setCycles_sp (v : Nat) : (s.setCycles v).sp = s.sp := rfl
@[simp] theorem State.setCycles_pc (v : Nat) : (s.setCycles v).pc = s.pc := rfl
@[simp] theorem State.setCycles_ime (v : Nat) : (s.setCycles v).ime = s.ime := rfl
@[simp] theorem State.setCycles_halted (v : Nat) : (s.setCycles v).halted = s.halted := rfl
@[simp] theorem State.setCycles_fault (v : Nat) : (s.setCycles v).fault = s.fault := rfl
@[simp] theorem State.setCycles_mem (v : Nat) : (s.setCycles v).mem = s.mem := rfl
@[simp] theorem State.setCycles_ly (v : Nat) : (s.setCycles v).ly = s.ly := rfl
@[simp] theorem State.setCycles_acc (v : Nat) : (s.setCycles v).acc = s.acc := rfl
@[simp] theorem State.setCycles_back (v : Nat) : (s.setCycles v).back = s.back := rfl
@[simp] theorem State.setCycles_front (v : Nat) : (s.setCycles v).front = s.front := rfl
@[simp] theorem State.setCycles_params (v : Nat) : (s.setCycles v).params = s.params := rfl
@[simp] theorem State.setCycles_cycles (v : Nat) : (s.setCycles v).cycles = v := rfl
@[simp] theorem State.setCycles_extra (v : Nat) : (s.setCycles v).extra = s.extra := rfl
@[simp] theorem State.setCycles_reg (v : Nat) (r : Reg8) : (s.setCycles v).reg r = s.reg r := by cases r <;> rfl

@[simp] theorem State.setExtra_a (v : Nat) : (s.setExtra v).a = s.a := rfl
@[simp] theorem State.setExtra_f (v : Nat) : (s.setExtra v).f = s.f := rfl
@[simp] theorem State.setExtra_b (v : Nat) : (s.setExtra v).b = s.b := rfl
@[simp] theorem State.setExtra_c (v : Nat) : (s.setExtra v).c = s.c := rfl
@[simp] theorem State.setExtra_d (v : Nat) : (s.setExtra v).d = s.d := rfl
@[simp] theorem State.setExtra_e (v : Nat) : (s.setExtra v).e = s.e := rfl
@[simp] theorem State.setExtra_h (v : Nat) : (s.setExtra v).h = s.h := rfl
@[simp] theorem State.setExtra_l (v : Nat) : (s.setExtra v).l = s.l := rfl
@[simp] theorem State.setExtra_sp (v : Nat) : (s.setExtra v).sp = s.sp := rfl
@[simp] theorem State.setExtra_pc (v : Nat) : (s.setExtra v).pc = s.pc := rfl
@[simp] theorem State.setExtra_ime (v : Nat) : (s.setExtra v).ime = s.ime := rfl
@[simp] theorem State.setExtra_halted (v : Nat) : (s.setExtra v).halted = s.halted := rfl
@[simp] theorem State.setExtra_fault (v : Nat) : (s.setExtra v).fault = s.fault := rfl
@[simp] theorem State.setExtra_mem (v : Nat) : (s.setExtra v).mem = s.mem := rfl
@[simp] theorem State.setExtra_ly (v : Nat) : (s.setExtra v).ly = s.ly := rfl
@[simp] theorem State.setExtra_acc (v : Nat) : (s.setExtra v).acc = s.acc := rfl
@[simp] theorem State.setExtra_back (v : Nat) : (s.setExtra v).back = s.back := rfl
@[simp] theorem State.setExtra_front (v : Nat) : (s.setExtra v).front = s.front := rfl
@[simp] theorem State.setExtra_params (v : Nat) : (s.setExtra v).params = s.params := rfl
@[simp] theorem State.setExtra_cycles (v : Nat) : (s.setExtra v).cycles = s.cycles := rfl
@[simp] theorem State.setExtra_extra (v : Nat) : (s.setExtra v).extra = v := rfl
@[simp] theorem State.setExtra_reg (v : Nat) (r : Reg8) : (s.setExtra v).reg r = s.reg r := by cases r <;> rfl

@[simp] theorem State.setReg_f (r : Reg8) (v : Byte) : (s.setReg r v).f = s.f := by cases r <;> rfl
@[simp] theorem State.setReg_sp (r : Reg8) (v : Byte) : (s.setReg r v).sp = s.sp := by cases r <;> rfl
@[simp] theorem State.setReg_pc (r : Reg8) (v : Byte) : (s.setReg r v).pc = s.pc := by cases r <;> rfl
@[simp] theorem State.setReg_ime (r : Reg8) (v : Byte) : (s.setReg r v).ime = s.ime := by cases r <;> rfl
@[simp] theorem State.setReg_halted (r : Reg8) (v : Byte) : (s.setReg r v).halted = s.halted := by cases r <;> rfl
@[simp] theorem State.setReg_fault (r : Reg8) (v : Byte) : (s.setReg r v).fault = s.fault := by cases r <;> rfl
@[simp] theorem State.setReg_mem (r : Reg8) (v : Byte) : (s.setReg r v).mem = s.mem := by cases r <;> rfl
@[simp] theorem State.setReg_ly (r : Reg8) (v : Byte) : (s.setReg r v).ly = s.ly := by cases r <;> rfl
@[simp] theorem State.setReg_acc (r : Reg8) (v : Byte) : (s.setReg r v).acc = s.acc := by cases r <;> rfl
@[simp] theorem State.setReg_back (r : Reg8) (v : Byte) : (s.setReg r v).back = s.back := by cases r <;> rfl
@[simp] theorem State.setReg_front (r : Reg8) (v : Byte) : (s.setReg r v).front = s.front := by cases r <;> rfl
@[simp] theorem State.setReg_params (r : Reg8) (v : Byte) : (s.setReg r v).params = s.params := by cases r <;> rfl
@[simp] theorem State.setReg_cycles (r : Reg8) (v : Byte) : (s.setReg r v).cycles = s.cycles := by cases r <;> rfl
@[simp] theorem State.setReg_extra (r : Reg8) (v : Byte) : (s.setReg r v).extra = s.extra := by cases r <;> rfl
@[simp] theorem State.setReg_a (r : Reg8) (v : Byte) : (s.setReg r v).a = if r = .a then v else s.a := by
  cases r <;> rfl
@[simp] theorem State.setReg_b (r : Reg8) (v : Byte) : (s.setReg r v).b = if r = .b then v else s.b := by
  cases r <;> rfl
@[simp] theorem State.setReg_c (r : Reg8) (v : Byte) : (s.setReg r v).c = if r = .c then v else s.c := by
  cases r <;> rfl
@[simp] theorem State.setReg_d (r : Reg8) (v : Byte) : (s.setReg r v).d = if r = .d then v else s.d := by
  cases r <;> rfl
@[simp] theorem State.setReg_e (r : Reg8) (v : Byte) : (s.setReg r v).e = if r = .e then v else s.e := by
  cases r <;> rfl
@[simp] theorem State.setReg_h (r : Reg8) (v : Byte) : (s.setReg r v).h = if r = .h then v else s.h := by
  cases r <;> rfl
@[simp] theorem State.setReg_l (r : Reg8) (v : Byte) : (s.setReg r v).l = if r = .l then v else s.l := by
  cases r <;> rfl

theorem State.setReg_reg (rd r : Reg8) (v : Byte) : (s.setReg rd v).reg r = if r = rd then v else s.reg r := by
  cases rd <;> cases r <;> rfl

@[simp] theorem State.setReg_reg_self (r : Reg8) (v : Byte) : (s.setReg r v).reg r = v := by
  cases r <;> rfl

/-- Writing back what memory holds changes nothing. -/
@[simp] theorem State.setMem_self : s.setMem s.mem = s := rfl

/-- The cost of an instruction depends on the parameters alone (R45). -/
theorem State.cost_congr {s t : State} (h : t.params = s.params) (i : Instr) : t.cost i = s.cost i := by
  unfold State.cost
  rw [h]

/-- A pair reads only its registers. -/
@[simp] theorem State.pair_bc : s.pair .bc = wordOf s.b s.c := rfl
@[simp] theorem State.pair_de : s.pair .de = wordOf s.d s.e := rfl
@[simp] theorem State.pair_hl : s.pair .hl = wordOf s.h s.l := rfl
@[simp] theorem State.pair_sp : s.pair .sp = s.sp := rfl

end Sys2Proof.Machine
end

