-- ==== Sys2Proof/Laws/Memory.lean ====
section
/-! SUPPORT. Memory: reading after writing, the canonical form, and what the decoder, the stack and the flags do. -/

namespace Sys2Proof.Machine

@[simp] theorem Memory.read_nil (a : Nat) : Memory.read [] a = unlistedByte := rfl

theorem Memory.read_pair (k : Nat) (w : Byte) (t : Memory) (a : Nat) :
    Memory.read ((k, w) :: t) a = if k = a then w else Memory.read t a := rfl

/-- An address that no entry has reads as an unlisted address. -/
theorem Memory.read_of_absent {m : Memory} {a : Nat} (h : ∀ c ∈ m, c.1 ≠ a) : m.read a = unlistedByte := by
  induction m with
  | nil => rfl
  | cons c t ih =>
    obtain ⟨k, w⟩ := c
    rw [Memory.read_pair, if_neg (h (k, w) (by simp))]
    exact ih fun c hc => h c (List.mem_cons_of_mem _ hc)

theorem Memory.read_filter_other (m : Memory) {a b : Nat} (h : b ≠ a) :
    Memory.read (m.filter fun c => decide (c.1 ≠ a)) b = m.read b := by
  induction m with
  | nil => rfl
  | cons c t ih =>
    obtain ⟨k, w⟩ := c
    by_cases hk : k = a
    · subst hk
      simp only [List.filter_cons, ne_eq, not_true, decide_false, Bool.false_eq_true, if_false]
      rw [Memory.read_pair, if_neg (Ne.symm h)]
      exact ih
    · simp only [List.filter_cons, ne_eq, hk, not_false_eq_true, decide_true, if_true, Memory.read_pair]
      split
      · rfl
      · exact ih

theorem Memory.read_cons (m : Memory) (a b : Nat) (v : Byte) (h : ∀ c ∈ m, c.1 ≠ a) :
    (Memory.cons a v m).read b = if b = a then v else m.read b := by
  unfold Memory.cons
  by_cases hb : b = a
  · subst hb
    split
    · next hv => rw [if_pos rfl, hv, Memory.read_of_absent h]
    · simp [Memory.read_pair]
  · rw [if_neg hb]
    split
    · rfl
    · rw [Memory.read_pair, if_neg (Ne.symm hb)]

theorem Memory.read_insert (m : Memory) (a b : Nat) (v : Byte) (h : ∀ c ∈ m, c.1 ≠ a) :
    (Memory.insert m a v).read b = if b = a then v else m.read b := by
  induction m with
  | nil => exact Memory.read_cons [] a b v (by simp)
  | cons c t ih =>
    obtain ⟨k, w⟩ := c
    unfold Memory.insert
    split
    · exact Memory.read_cons _ a b v h
    · have hk : k ≠ a := h (k, w) (by simp)
      rw [Memory.read_pair, Memory.read_pair, ih fun c hc => h c (List.mem_cons_of_mem _ hc)]
      by_cases hb : b = a
      · subst hb; simp [hk]
      · simp [hb]

/-- Reading after writing: the byte written at its address, every other byte as before. -/
theorem Memory.read_write (m : Memory) (a b : Nat) (v : Byte) :
    (m.write a v).read b = if b = a then v else m.read b := by
  unfold Memory.write
  rw [Memory.read_insert _ a b v (by simp)]
  by_cases hb : b = a
  · simp [hb]
  · rw [if_neg hb, if_neg hb, Memory.read_filter_other m hb]

theorem Memory.above_iff (m : Memory) (a : Nat) : m.above a = true ↔ ∀ c ∈ m, a < c.1 := by
  simp [Memory.above]

theorem Memory.wf_pair (k : Nat) (w : Byte) (t : Memory) :
    Memory.wf ((k, w) :: t) = true ↔ k < 65536 ∧ w ≠ unlistedByte ∧ (∀ c ∈ t, k < c.1) ∧ t.wf = true := by
  simp [Memory.wf, Memory.above, and_assoc]

theorem Memory.wf_cons {m : Memory} {a : Nat} {v : Byte} (ha : a < 65536) (hm : m.wf = true)
    (h : ∀ c ∈ m, a < c.1) : (Memory.cons a v m).wf = true := by
  unfold Memory.cons
  split
  · exact hm
  · next hv => exact (Memory.wf_pair a v m).2 ⟨ha, hv, h, hm⟩

theorem Memory.mem_cons {m : Memory} {a : Nat} {v : Byte} {c : Host.Cell} (h : c ∈ Memory.cons a v m) :
    c = (a, v) ∨ c ∈ m := by
  unfold Memory.cons at h
  split at h
  · exact .inr h
  · exact List.mem_cons.1 h

theorem Memory.mem_insert {m : Memory} {a : Nat} {v : Byte} {c : Host.Cell} (h : c ∈ Memory.insert m a v) :
    c = (a, v) ∨ c ∈ m := by
  induction m with
  | nil => exact Memory.mem_cons h
  | cons d t ih =>
    obtain ⟨k, w⟩ := d
    unfold Memory.insert at h
    split at h
    · exact Memory.mem_cons h
    · rcases List.mem_cons.1 h with h | h
      · exact .inr (by simp [h])
      · exact (ih h).imp_right (List.mem_cons_of_mem _)

/-- The entries of a memory after a write are the one written and entries that were there. -/
theorem Memory.mem_write {m : Memory} {a : Nat} {v : Byte} {c : Host.Cell} (h : c ∈ m.write a v) :
    c = (a, v) ∨ c ∈ m :=
  (Memory.mem_insert h).imp_right fun h => (List.mem_filter.1 h).1

theorem Memory.wf_insert {m : Memory} {a : Nat} (v : Byte) (ha : a < 65536) (hm : m.wf = true)
    (h : ∀ c ∈ m, c.1 ≠ a) : (Memory.insert m a v).wf = true := by
  induction m with
  | nil => exact Memory.wf_cons ha rfl (by simp)
  | cons d t ih =>
    obtain ⟨k, w⟩ := d
    obtain ⟨hk, hw, habove, ht⟩ := (Memory.wf_pair k w t).1 hm
    unfold Memory.insert
    split
    · next hlt =>
      refine Memory.wf_cons ha hm fun c hc => ?_
      rcases List.mem_cons.1 hc with rfl | hc
      · exact hlt
      · exact Nat.lt_trans hlt (habove c hc)
    · next hlt =>
      have hne : k ≠ a := h (k, w) (by simp)
      refine (Memory.wf_pair k w _).2 ⟨hk, hw, fun c hc => ?_, ih ht fun c hc => h c (List.mem_cons_of_mem _ hc)⟩
      rcases Memory.mem_insert hc with rfl | hc
      · show k < a; omega
      · exact habove c hc

theorem Memory.wf_filter {m : Memory} (a : Nat) (hm : m.wf = true) :
    Memory.wf (m.filter fun c => decide (c.1 ≠ a)) = true := by
  induction m with
  | nil => rfl
  | cons d t ih =>
    obtain ⟨k, w⟩ := d
    obtain ⟨hk, hw, habove, ht⟩ := (Memory.wf_pair k w t).1 hm
    rw [List.filter_cons]
    split
    · exact (Memory.wf_pair k w _).2 ⟨hk, hw, fun c hc => habove c (List.mem_filter.1 hc).1, ih ht⟩
    · exact ih ht

/-- Every write keeps the canonical form. -/
theorem Memory.wf_write {m : Memory} {a : Nat} (v : Byte) (ha : a < 65536) (hm : m.wf = true) :
    (m.write a v).wf = true :=
  Memory.wf_insert v ha (Memory.wf_filter a hm) (by simp)

/-! ### The address decoder -/

/-- What a writable region's byte reads as is what memory holds. -/
theorem memRead_of_stored (s : State) {a : Word} (h : (regionOf a).stored = true) : s.memRead a = s.mem.read a.toNat := by
  unfold State.memRead
  cases hr : regionOf a <;> simp_all [Region.stored]

theorem Region.stored_of_writable {r : Region} (h : r.writable = true) : r.stored = true := by
  cases r <;> simp_all [Region.writable, Region.stored]

/-- The decoder reads memory and LY, nothing else. -/
theorem memRead_congr {s t : State} (hm : t.mem = s.mem) (hl : t.ly = s.ly) (a : Word) : t.memRead a = s.memRead a := by
  unfold State.memRead
  rw [hm, hl]

section
variable (s : State) (a : Word)
@[simp] theorem memRead_setReg (r : Reg8) (v : Byte) : (s.setReg r v).memRead a = s.memRead a :=
  memRead_congr (by simp) (by simp) a
@[simp] theorem memRead_setF (v : Byte) : (s.setF v).memRead a = s.memRead a := rfl
@[simp] theorem memRead_setSp (v : Word) : (s.setSp v).memRead a = s.memRead a := rfl
@[simp] theorem memRead_setPc (v : Word) : (s.setPc v).memRead a = s.memRead a := rfl
@[simp] theorem memRead_setIme (v : Bool) : (s.setIme v).memRead a = s.memRead a := rfl
@[simp] theorem memRead_setHalted (v : Bool) : (s.setHalted v).memRead a = s.memRead a := rfl
@[simp] theorem memRead_setFault (v : Option IllegalInstruction) : (s.setFault v).memRead a = s.memRead a := rfl
@[simp] theorem memRead_setAcc (v : Nat) : (s.setAcc v).memRead a = s.memRead a := rfl
@[simp] theorem memRead_setBack (v : FrameBuffer) : (s.setBack v).memRead a = s.memRead a := rfl
@[simp] theorem memRead_setFront (v : FrameBuffer) : (s.setFront v).memRead a = s.memRead a := rfl
@[simp] theorem memRead_setCycles (v : Nat) : (s.setCycles v).memRead a = s.memRead a := rfl
@[simp] theorem memRead_setExtra (v : Nat) : (s.setExtra v).memRead a = s.memRead a := rfl
end

/-- Reading after a write of the CPU (R61, R62): the byte at the address when its region stores it, every other as before. -/
theorem memRead_memWrite (s : State) (a b : Word) (v : Byte) :
    (s.memWrite a v).memRead b = if b = a ∧ (regionOf a).writable = true then v else s.memRead b := by
  unfold State.memWrite
  by_cases hw : (regionOf a).writable = true
  · rw [if_pos hw]
    by_cases hb : b = a
    · subst hb
      rw [if_pos ⟨rfl, hw⟩, memRead_of_stored _ (Region.stored_of_writable hw), State.setMem_mem, Memory.read_write, if_pos rfl]
    · rw [if_neg (fun h => hb h.1)]
      have hn : b.toNat ≠ a.toNat := fun h => hb (BitVec.eq_of_toNat_eq h)
      unfold State.memRead
      cases regionOf b <;> simp [Memory.read_write, hn]
  · rw [if_neg hw, if_neg (fun h => hw h.2), State.setMem_self]

/-- A write of the CPU changes memory and nothing else. -/
theorem memWrite_eq (s : State) (a : Word) (v : Byte) : s.memWrite a v = s.setMem (s.memWrite a v).mem := rfl

section
variable (s : State)
@[simp] theorem memWrite_a (a : Word) (v : Byte) : (s.memWrite a v).a = s.a := rfl
@[simp] theorem memWrite_f (a : Word) (v : Byte) : (s.memWrite a v).f = s.f := rfl
@[simp] theorem memWrite_b (a : Word) (v : Byte) : (s.memWrite a v).b = s.b := rfl
@[simp] theorem memWrite_c (a : Word) (v : Byte) : (s.memWrite a v).c = s.c := rfl
@[simp] theorem memWrite_d (a : Word) (v : Byte) : (s.memWrite a v).d = s.d := rfl
@[simp] theorem memWrite_e (a : Word) (v : Byte) : (s.memWrite a v).e = s.e := rfl
@[simp] theorem memWrite_h (a : Word) (v : Byte) : (s.memWrite a v).h = s.h := rfl
@[simp] theorem memWrite_l (a : Word) (v : Byte) : (s.memWrite a v).l = s.l := rfl
@[simp] theorem memWrite_sp (a : Word) (v : Byte) : (s.memWrite a v).sp = s.sp := rfl
@[simp] theorem memWrite_pc (a : Word) (v : Byte) : (s.memWrite a v).pc = s.pc := rfl
@[simp] theorem memWrite_ime (a : Word) (v : Byte) : (s.memWrite a v).ime = s.ime := rfl
@[simp] theorem memWrite_halted (a : Word) (v : Byte) : (s.memWrite a v).halted = s.halted := rfl
@[simp] theorem memWrite_fault (a : Word) (v : Byte) : (s.memWrite a v).fault = s.fault := rfl
@[simp] theorem memWrite_ly (a : Word) (v : Byte) : (s.memWrite a v).ly = s.ly := rfl
@[simp] theorem memWrite_acc (a : Word) (v : Byte) : (s.memWrite a v).acc = s.acc := rfl
@[simp] theorem memWrite_back (a : Word) (v : Byte) : (s.memWrite a v).back = s.back := rfl
@[simp] theorem memWrite_front (a : Word) (v : Byte) : (s.memWrite a v).front = s.front := rfl
@[simp] theorem memWrite_params (a : Word) (v : Byte) : (s.memWrite a v).params = s.params := rfl
@[simp] theorem memWrite_cycles (a : Word) (v : Byte) : (s.memWrite a v).cycles = s.cycles := rfl
@[simp] theorem memWrite_extra (a : Word) (v : Byte) : (s.memWrite a v).extra = s.extra := rfl
@[simp] theorem memWrite_reg (a : Word) (v : Byte) (r : Reg8) : (s.memWrite a v).reg r = s.reg r := by cases r <;> rfl
end

/-! ### The stack -/

section
variable (s : State)
@[simp] theorem push16_a (v : Word) : (s.push16 v).a = s.a := rfl
@[simp] theorem push16_f (v : Word) : (s.push16 v).f = s.f := rfl
@[simp] theorem push16_b (v : Word) : (s.push16 v).b = s.b := rfl
@[simp] theorem push16_c (v : Word) : (s.push16 v).c = s.c := rfl
@[simp] theorem push16_d (v : Word) : (s.push16 v).d = s.d := rfl
@[simp] theorem push16_e (v : Word) : (s.push16 v).e = s.e := rfl
@[simp] theorem push16_h (v : Word) : (s.push16 v).h = s.h := rfl
@[simp] theorem push16_l (v : Word) : (s.push16 v).l = s.l := rfl
@[simp] theorem push16_sp (v : Word) : (s.push16 v).sp = s.sp - 1 - 1 := rfl
@[simp] theorem push16_pc (v : Word) : (s.push16 v).pc = s.pc := rfl
@[simp] theorem push16_ime (v : Word) : (s.push16 v).ime = s.ime := rfl
@[simp] theorem push16_halted (v : Word) : (s.push16 v).halted = s.halted := rfl
@[simp] theorem push16_fault (v : Word) : (s.push16 v).fault = s.fault := rfl
@[simp] theorem push16_ly (v : Word) : (s.push16 v).ly = s.ly := rfl
@[simp] theorem push16_acc (v : Word) : (s.push16 v).acc = s.acc := rfl
@[simp] theorem push16_back (v : Word) : (s.push16 v).back = s.back := rfl
@[simp] theorem push16_front (v : Word) : (s.push16 v).front = s.front := rfl
@[simp] theorem push16_params (v : Word) : (s.push16 v).params = s.params := rfl
@[simp] theorem push16_cycles (v : Word) : (s.push16 v).cycles = s.cycles := rfl
@[simp] theorem push16_extra (v : Word) : (s.push16 v).extra = s.extra := rfl
@[simp] theorem push16_reg (v : Word) (r : Reg8) : (s.push16 v).reg r = s.reg r := by cases r <;> rfl
@[simp] theorem pop16_a : s.pop16.2.a = s.a := rfl
@[simp] theorem pop16_f : s.pop16.2.f = s.f := rfl
@[simp] theorem pop16_b : s.pop16.2.b = s.b := rfl
@[simp] theorem pop16_c : s.pop16.2.c = s.c := rfl
@[simp] theorem pop16_d : s.pop16.2.d = s.d := rfl
@[simp] theorem pop16_e : s.pop16.2.e = s.e := rfl
@[simp] theorem pop16_h : s.pop16.2.h = s.h := rfl
@[simp] theorem pop16_l : s.pop16.2.l = s.l := rfl
@[simp] theorem pop16_sp : s.pop16.2.sp = s.sp + 1 + 1 := rfl
@[simp] theorem pop16_pc : s.pop16.2.pc = s.pc := rfl
@[simp] theorem pop16_ime : s.pop16.2.ime = s.ime := rfl
@[simp] theorem pop16_halted : s.pop16.2.halted = s.halted := rfl
@[simp] theorem pop16_fault : s.pop16.2.fault = s.fault := rfl
@[simp] theorem pop16_ly : s.pop16.2.ly = s.ly := rfl
@[simp] theorem pop16_acc : s.pop16.2.acc = s.acc := rfl
@[simp] theorem pop16_back : s.pop16.2.back = s.back := rfl
@[simp] theorem pop16_front : s.pop16.2.front = s.front := rfl
@[simp] theorem pop16_params : s.pop16.2.params = s.params := rfl
@[simp] theorem pop16_cycles : s.pop16.2.cycles = s.cycles := rfl
@[simp] theorem pop16_extra : s.pop16.2.extra = s.extra := rfl
@[simp] theorem pop16_mem : s.pop16.2.mem = s.mem := rfl
@[simp] theorem pop16_reg (r : Reg8) : s.pop16.2.reg r = s.reg r := by cases r <;> rfl
@[simp] theorem pop16_memRead (a : Word) : s.pop16.2.memRead a = s.memRead a := rfl

/-- The word popped (R301): the low byte at SP, the high byte at SP + 1. -/
theorem pop16_value : s.pop16.1 = wordOf (s.memRead (s.sp + 1)) (s.memRead s.sp) := rfl
end

/-- Memory after a push (R300): the low byte at SP − 2 and the high byte at SP − 1 where their regions store them. -/
theorem memRead_push16 (s : State) (v a : Word) :
    (s.push16 v).memRead a =
      if a = s.sp - 1 - 1 ∧ (regionOf (s.sp - 1 - 1)).writable = true then loByte v
      else if a = s.sp - 1 ∧ (regionOf (s.sp - 1)).writable = true then hiByte v
      else s.memRead a := by
  simp [State.push16, memRead_memWrite]

end Sys2Proof.Machine
end

