-- ==== Sys2Proof/Laws/Words.lean ====
section
/-! SUPPORT. Bytes of a word, pairs, and the flags of F. -/

namespace Sys2Proof

theorem wordOf_toNat (h l : Byte) : (wordOf h l).toNat = h.toNat * 256 + l.toNat := by
  have hl := l.isLt
  unfold wordOf
  rw [BitVec.toNat_append, ← Nat.shiftLeft_add_eq_or_of_lt hl, Nat.shiftLeft_eq]

theorem hiByte_toNat (w : Word) : (hiByte w).toNat = w.toNat / 256 := by
  have hw := w.isLt
  simp only [hiByte, BitVec.extractLsb'_toNat, Nat.shiftRight_eq_div_pow]
  omega

theorem loByte_toNat (w : Word) : (loByte w).toNat = w.toNat % 256 := by
  simp only [loByte, BitVec.extractLsb'_toNat, Nat.shiftRight_zero]

@[simp] theorem hiByte_wordOf (h l : Byte) : hiByte (wordOf h l) = h := by
  have hh := h.isLt
  have hl := l.isLt
  apply BitVec.eq_of_toNat_eq
  rw [hiByte_toNat, wordOf_toNat]
  omega

@[simp] theorem loByte_wordOf (h l : Byte) : loByte (wordOf h l) = l := by
  have hl := l.isLt
  apply BitVec.eq_of_toNat_eq
  rw [loByte_toNat, wordOf_toNat]
  omega

@[simp] theorem wordOf_bytes (w : Word) : wordOf (hiByte w) (loByte w) = w := by
  apply BitVec.eq_of_toNat_eq
  rw [wordOf_toNat, hiByte_toNat, loByte_toNat]
  omega

namespace Machine

theorem packFlags_bits (z n h c : Bool) :
    (packFlags z n h c).getLsbD 7 = z ∧ (packFlags z n h c).getLsbD 6 = n ∧ (packFlags z n h c).getLsbD 5 = h ∧
      (packFlags z n h c).getLsbD 4 = c := by
  revert z n h c
  decide

@[simp] theorem flagZ_setF (s : State) (z n h c : Bool) : (s.setF (packFlags z n h c)).flagZ = z :=
  (packFlags_bits z n h c).1

@[simp] theorem flagN_setF (s : State) (z n h c : Bool) : (s.setF (packFlags z n h c)).flagN = n :=
  (packFlags_bits z n h c).2.1

@[simp] theorem flagH_setF (s : State) (z n h c : Bool) : (s.setF (packFlags z n h c)).flagH = h :=
  (packFlags_bits z n h c).2.2.1

@[simp] theorem flagC_setF (s : State) (z n h c : Bool) : (s.setF (packFlags z n h c)).flagC = c :=
  (packFlags_bits z n h c).2.2.2

/-- A flag write leaves bits 3..0 of F zero (R10, R22). -/
@[simp] theorem packFlags_low (z n h c : Bool) : packFlags z n h c &&& 0x0F = 0 := by
  revert z n h c
  decide

/-- The AF setter leaves bits 3..0 of F zero (R25). -/
@[simp] theorem mask_low (v : Byte) : v &&& 0xF0 &&& 0x0F = 0 := by
  rw [BitVec.and_assoc]
  exact BitVec.and_zero

/-- The flags are read from F only. -/
theorem flags_of_f {s t : State} (h : t.f = s.f) :
    t.flagZ = s.flagZ ∧ t.flagN = s.flagN ∧ t.flagH = s.flagH ∧ t.flagC = s.flagC := by
  simp [State.flagZ, State.flagN, State.flagH, State.flagC, h]

end Machine

end Sys2Proof
end

