-- ==== Sys2Proof/Laws/Frames.lean ====
section
/-! SUPPORT. Small lemmas about the words of Safety.lean. -/

namespace Sys2Proof.Machine

/-- The ranges of R62 are the decoder's writable regions. -/
theorem storable_eq (addr : Word) : storable addr = (regionOf addr).writable := by
  have h := addr.isLt
  unfold storable regionOf
  repeat' split
  all_goals
    simp only [Region.writable, Bool.or_eq_true, Bool.and_eq_true, Bool.or_eq_false_iff, Bool.and_eq_false_iff,
      decide_eq_true_eq, decide_eq_false_iff_not]
    omega

/-- The flags that a flag write leaves (R10, R23). -/
theorem flagsAre_packFlags {t : State} {z n h c : Bool} (hf : t.f = packFlags z n h c) : FlagsAre t z n h c := by
  unfold FlagsAre
  rw [hf]
  clear hf
  revert z n h c
  decide

theorem keepsRegs_refl (s : State) (rs : List Reg8) : KeepsRegs s s rs := fun _ _ => rfl

theorem keepsRest_refl (s : State) : KeepsRest s s := ⟨rfl, rfl, rfl, rfl, rfl, rfl, rfl⟩

theorem KeepsRegs.trans {s t u : State} {rs : List Reg8} (h : KeepsRegs s t rs) (h' : KeepsRegs t u rs) :
    KeepsRegs s u rs := fun r hr => (h' r hr).trans (h r hr)

/-- Reads depend on memory and LY only. -/
theorem keepsMemory_of {s t : State} (hm : t.mem = s.mem) (hl : t.ly = s.ly) : KeepsMemory s t :=
  memRead_congr hm hl

/-- The 8-bit registers are the seven fields. -/
theorem keepsRegs_of {s t : State} (ha : t.a = s.a) (hb : t.b = s.b) (hc : t.c = s.c) (hd : t.d = s.d) (he : t.e = s.e)
    (hh : t.h = s.h) (hl : t.l = s.l) : KeepsRegs s t [] := by
  intro r _
  cases r <;> assumption

theorem lowNibble_eq (v : Byte) : lowNibble v = v.toNat % 16 := by
  unfold lowNibble
  rw [BitVec.toNat_and]
  exact Nat.and_two_pow_sub_one_eq_mod v.toNat 4

theorem carry_eq (s : State) : carryIn s.flagC = s.carry := by
  unfold carryIn State.carry State.flagC
  cases s.f.getLsbD 4 <;> rfl

end Sys2Proof.Machine
end

