-- ==== Sys2Proof/Laws/Effects.lean ====
section
/-! SUPPORT. What every instruction can do to the state, said once: the frame all of them share, and that memory changes
only by writes of the CPU to storable addresses. -/

namespace Sys2Proof.Machine

/-- Memory after writes of the CPU: each to an address whose region stores it (R62). -/
inductive CpuWrites : Memory → Memory → Prop where
  | refl (m : Memory) : CpuWrites m m
  | write {m n : Memory} (addr : Word) (v : Byte) (before : CpuWrites m n) (h : (regionOf addr).writable = true) :
      CpuWrites m (n.write addr.toNat v)

theorem CpuWrites.memWrite {m : Memory} {s : State} (h : CpuWrites m s.mem) (addr : Word) (v : Byte) :
    CpuWrites m (s.memWrite addr v).mem := by
  unfold State.memWrite
  split
  · next hw => exact .write addr v h hw
  · exact h

theorem CpuWrites.push16 {m : Memory} {s : State} (h : CpuWrites m s.mem) (v : Word) : CpuWrites m (s.push16 v).mem :=
  CpuWrites.memWrite (s := (((s.setSp (s.sp - 1)).memWrite (s.sp - 1) (hiByte v)).setSp (s.sp - 1 - 1)))
    (CpuWrites.memWrite (s := s.setSp (s.sp - 1)) h _ _) _ _

theorem CpuWrites.trans {m n p : Memory} (h : CpuWrites m n) (h' : CpuWrites n p) : CpuWrites m p := by
  induction h' with
  | refl => exact h
  | write addr v _ hw ih => exact .write addr v ih hw

/-- The canonical form survives writes of the CPU. -/
theorem CpuWrites.wf {m n : Memory} (h : CpuWrites m n) (hm : m.wf = true) : n.wf = true := by
  induction h with
  | refl => exact hm
  | write addr v _ _ ih => exact Memory.wf_write v addr.isLt ih

/-- Storage behind every listed byte survives writes of the CPU. -/
theorem CpuWrites.stored {m n : Memory} (h : CpuWrites m n)
    (hm : ∀ cell ∈ m, (regionOf (BitVec.ofNat 16 cell.1)).stored = true) :
    ∀ cell ∈ n, (regionOf (BitVec.ofNat 16 cell.1)).stored = true := by
  induction h with
  | refl => exact hm
  | write addr v _ hw ih =>
    intro cell hc
    rcases Memory.mem_write hc with rfl | hc
    · simpa using Region.stored_of_writable hw
    · exact ih cell hc

/-- A byte whose region no write stores to survives writes of the CPU. -/
theorem CpuWrites.read {m n : Memory} (h : CpuWrites m n) {addr : Word} (ha : (regionOf addr).writable = false) :
    n.read addr.toNat = m.read addr.toNat := by
  induction h with
  | refl => rfl
  | write a v _ hw ih =>
    rw [Memory.read_write, if_neg, ih]
    intro he
    have := BitVec.eq_of_toNat_eq he
    subst this
    simp [ha] at hw

/-- What an instruction can do. -/
structure Effect (s t : State) : Prop where
  rest : KeepsRest s t
  flags : t.f = s.f ∨ t.f &&& 0x0F = 0
  memory : CpuWrites s.mem t.mem
  halted : s.halted = true → t.halted = true

/-- What the end of an instruction can be. -/
def Ends (s : State) (r : Result) : Prop := ∀ t, r = .next t → Effect s t ∧ 4 ≤ t.cycles ∧ t.cycles ≤ 24

theorem Effect.ends {s s' : State} (h : Effect s s') (c : Cost) : Ends s (s'.complete c) := by
  intro t ht
  cases ht
  exact ⟨⟨⟨h.rest.1, h.rest.2, h.rest.3, h.rest.4, h.rest.5, h.rest.6, h.rest.7⟩, h.flags, h.memory, h.halted⟩, c.2⟩

theorem Effect.refl (s : State) : Effect s s := ⟨⟨rfl, rfl, rfl, rfl, rfl, rfl, rfl⟩, .inl rfl, .refl _, id⟩

theorem Effect.setReg (s : State) (r : Reg8) (v : Byte) : Effect s (s.setReg r v) := by
  cases r <;> exact ⟨⟨rfl, rfl, rfl, rfl, rfl, rfl, rfl⟩, .inl rfl, .refl _, id⟩

theorem Effect.setPair (s : State) (p : Pair) (v : Word) : Effect s (s.setPair p v) := by
  cases p <;> exact ⟨⟨rfl, rfl, rfl, rfl, rfl, rfl, rfl⟩, .inl rfl, .refl _, id⟩

theorem Effect.memWrite (s : State) (addr : Word) (v : Byte) : Effect s (s.memWrite addr v) :=
  ⟨⟨rfl, rfl, rfl, rfl, rfl, rfl, rfl⟩, .inl rfl, CpuWrites.memWrite (.refl _) addr v, id⟩

theorem Effect.push16 (s : State) (v : Word) : Effect s (s.push16 v) :=
  ⟨⟨rfl, rfl, rfl, rfl, rfl, rfl, rfl⟩, .inl rfl, CpuWrites.push16 (.refl _) v, id⟩

theorem Effect.pop16 (s : State) : Effect s s.pop16.2 := ⟨⟨rfl, rfl, rfl, rfl, rfl, rfl, rfl⟩, .inl rfl, .refl _, id⟩

theorem Effect.flagsWrite {s s' : State} (h : Effect s s') (z n hc c : Bool) : Effect s (s'.flags z n hc c) :=
  ⟨⟨h.rest.1, h.rest.2, h.rest.3, h.rest.4, h.rest.5, h.rest.6, h.rest.7⟩, .inr (packFlags_low z n hc c), h.memory,
    h.halted⟩

theorem Effect.setPc {s s' : State} (h : Effect s s') (v : Word) : Effect s (s'.setPc v) :=
  ⟨⟨h.rest.1, h.rest.2, h.rest.3, h.rest.4, h.rest.5, h.rest.6, h.rest.7⟩, h.flags, h.memory, h.halted⟩

theorem Effect.setIme {s s' : State} (h : Effect s s') (v : Bool) : Effect s (s'.setIme v) :=
  ⟨⟨h.rest.1, h.rest.2, h.rest.3, h.rest.4, h.rest.5, h.rest.6, h.rest.7⟩, h.flags, h.memory, h.halted⟩

/-- One update after another. -/
theorem Effect.trans {s t u : State} (h : Effect s t) (h' : Effect t u)
    (hm : u.mem = t.mem) : Effect s u :=
  ⟨⟨h'.rest.1.trans h.rest.1, h'.rest.2.trans h.rest.2, h'.rest.3.trans h.rest.3, h'.rest.4.trans h.rest.4,
      h'.rest.5.trans h.rest.5, h'.rest.6.trans h.rest.6, h'.rest.7.trans h.rest.7⟩,
    h'.flags.elim (fun e => e ▸ h.flags) .inr, hm ▸ h.memory, fun x => h'.halted (h.halted x)⟩

theorem setPair_mem (s : State) (p : Pair) (v : Word) : (s.setPair p v).mem = s.mem := by cases p <;> rfl

theorem setStackPair_mem (s : State) (q : StackPair) (v : Word) : (s.setStackPair q v).mem = s.mem := by cases q <;> rfl

theorem Effect.setStackPair (s : State) (q : StackPair) (v : Word) : Effect s (s.setStackPair q v) := by
  cases q
  · exact Effect.setPair s .bc v
  · exact Effect.setPair s .de v
  · exact Effect.setPair s .hl v
  · exact ⟨⟨rfl, rfl, rfl, rfl, rfl, rfl, rfl⟩, .inr (mask_low (loByte v)), .refl _, id⟩

/-! ### One lemma for each shared operation -/

theorem Effect.setHalted (s : State) : Effect s (s.setHalted true) :=
  ⟨⟨rfl, rfl, rfl, rfl, rfl, rfl, rfl⟩, .inl rfl, .refl _, fun _ => rfl⟩

theorem Effect.alu (s : State) (op : AluOp) (v : Byte) : Effect s (s.alu op v) := by
  cases op
  all_goals first
    | exact (Effect.setReg _ _ _).flagsWrite _ _ _ _
    | exact (Effect.refl _).flagsWrite _ _ _ _

theorem ldReg_ends (rd : Reg8) (rs : Reg8) (s : State) : Ends s (ldReg rd rs s) := (Effect.setReg _ _ _).ends _

theorem ldRegMem_ends (rd : Reg8) (s : State) : Ends s (ldRegMem rd s) := (Effect.setReg _ _ _).ends _

theorem ldMemReg_ends (r : Reg8) (s : State) : Ends s (ldMemReg r s) := (Effect.memWrite _ _ _).ends _

theorem ldRegN8_ends (rd : Reg8) (n8 : Byte) (s : State) : Ends s (ldRegN8 rd n8 s) := (Effect.setReg _ _ _).ends _

theorem ldMemN8_ends (n8 : Byte) (s : State) : Ends s (ldMemN8 n8 s) := (Effect.memWrite _ _ _).ends _

theorem ldAFromBc_ends (s : State) : Ends s (ldAFromBc s) := (Effect.setReg _ _ _).ends _

theorem ldAFromDe_ends (s : State) : Ends s (ldAFromDe s) := (Effect.setReg _ _ _).ends _

theorem ldBcFromA_ends (s : State) : Ends s (ldBcFromA s) := (Effect.memWrite _ _ _).ends _

theorem ldDeFromA_ends (s : State) : Ends s (ldDeFromA s) := (Effect.memWrite _ _ _).ends _

theorem ldHliFromA_ends (s : State) : Ends s (ldHliFromA s) :=
  ((Effect.memWrite _ _ _).trans (Effect.setPair _ _ _) (setPair_mem _ _ _)).ends _

theorem ldHldFromA_ends (s : State) : Ends s (ldHldFromA s) :=
  ((Effect.memWrite _ _ _).trans (Effect.setPair _ _ _) (setPair_mem _ _ _)).ends _

theorem ldAFromHli_ends (s : State) : Ends s (ldAFromHli s) :=
  ((Effect.setReg _ _ _).trans (Effect.setPair _ _ _) (setPair_mem _ _ _)).ends _

theorem ldAFromHld_ends (s : State) : Ends s (ldAFromHld s) :=
  ((Effect.setReg _ _ _).trans (Effect.setPair _ _ _) (setPair_mem _ _ _)).ends _

theorem ldhN8FromA_ends (n8 : Byte) (s : State) : Ends s (ldhN8FromA n8 s) := (Effect.memWrite _ _ _).ends _

theorem ldhAFromN8_ends (n8 : Byte) (s : State) : Ends s (ldhAFromN8 n8 s) := (Effect.setReg _ _ _).ends _

theorem ldCFromA_ends (s : State) : Ends s (ldCFromA s) := (Effect.memWrite _ _ _).ends _

theorem ldAFromC_ends (s : State) : Ends s (ldAFromC s) := (Effect.setReg _ _ _).ends _

theorem ldN16FromA_ends (n16 : Word) (s : State) : Ends s (ldN16FromA n16 s) := (Effect.memWrite _ _ _).ends _

theorem ldAFromN16_ends (n16 : Word) (s : State) : Ends s (ldAFromN16 n16 s) := (Effect.setReg _ _ _).ends _

theorem ldPairN16_ends (p : Pair) (n16 : Word) (s : State) : Ends s (ldPairN16 p n16 s) :=
  (Effect.setPair _ _ _).ends _

theorem aluReg_ends (op : AluOp) (r : Reg8) (s : State) : Ends s (aluReg op r s) := (Effect.alu _ _ _).ends _

theorem aluMem_ends (op : AluOp) (s : State) : Ends s (aluMem op s) := (Effect.alu _ _ _).ends _

theorem aluN8_ends (op : AluOp) (n8 : Byte) (s : State) : Ends s (aluN8 op n8 s) := (Effect.alu _ _ _).ends _

theorem incReg_ends (r : Reg8) (s : State) : Ends s (incReg r s) := ((Effect.setReg _ _ _).flagsWrite _ _ _ _).ends _

theorem decReg_ends (r : Reg8) (s : State) : Ends s (decReg r s) := ((Effect.setReg _ _ _).flagsWrite _ _ _ _).ends _

theorem incMem_ends (s : State) : Ends s (incMem s) := ((Effect.memWrite _ _ _).flagsWrite _ _ _ _).ends _

theorem decMem_ends (s : State) : Ends s (decMem s) := ((Effect.memWrite _ _ _).flagsWrite _ _ _ _).ends _

theorem incPair_ends (p : Pair) (s : State) : Ends s (incPair p s) := (Effect.setPair _ _ _).ends _

theorem decPair_ends (p : Pair) (s : State) : Ends s (decPair p s) := (Effect.setPair _ _ _).ends _

theorem addHlPair_ends (p : Pair) (s : State) : Ends s (addHlPair p s) :=
  ((Effect.setPair _ _ _).flagsWrite _ _ _ _).ends _

theorem jr_ends (e8 : Byte) (s : State) : Ends s (jr e8 s) := ((Effect.refl _).setPc _).ends _

theorem jrCc_ends (cc : Cond) (e8 : Byte) (s : State) : Ends s (jrCc cc e8 s) := by
  unfold jrCc
  split
  · exact ((Effect.refl _).setPc _).ends _
  · exact (Effect.refl _).ends _

theorem jp_ends (n16 : Word) (s : State) : Ends s (jp n16 s) := ((Effect.refl _).setPc _).ends _

theorem jpCc_ends (cc : Cond) (n16 : Word) (s : State) : Ends s (jpCc cc n16 s) := by
  unfold jpCc
  split
  · exact ((Effect.refl _).setPc _).ends _
  · exact (Effect.refl _).ends _

theorem call_ends (n16 : Word) (s : State) : Ends s (call n16 s) := ((Effect.push16 _ _).setPc _).ends _

theorem ret_ends (s : State) : Ends s (ret s) := ((Effect.pop16 _).setPc _).ends _

theorem reti_ends (s : State) : Ends s (reti s) := (((Effect.pop16 _).setPc _).setIme _).ends _

theorem rst_ends (v : Fin 8) (s : State) : Ends s (rst v s) := ((Effect.push16 _ _).setPc _).ends _

theorem push_ends (q : StackPair) (s : State) : Ends s (push q s) := (Effect.push16 _ _).ends _

theorem pop_ends (q : StackPair) (s : State) : Ends s (pop q s) :=
  ((Effect.pop16 _).trans (Effect.setStackPair _ _ _) (setStackPair_mem _ _ _)).ends _

theorem nop_ends (s : State) : Ends s (nop s) := (Effect.refl _).ends _

theorem halt_ends (s : State) : Ends s (halt s) := (Effect.setHalted _).ends _

theorem di_ends (s : State) : Ends s (di s) := ((Effect.refl _).setIme _).ends _

theorem ei_ends (s : State) : Ends s (ei s) := ((Effect.refl _).setIme _).ends _

theorem rlReg_ends (r : Reg8) (s : State) : Ends s (rlReg r s) := ((Effect.setReg _ _ _).flagsWrite _ _ _ _).ends _

theorem rlMem_ends (s : State) : Ends s (rlMem s) := ((Effect.memWrite _ _ _).flagsWrite _ _ _ _).ends _

theorem swapReg_ends (r : Reg8) (s : State) : Ends s (swapReg r s) :=
  ((Effect.setReg _ _ _).flagsWrite _ _ _ _).ends _

theorem swapMem_ends (s : State) : Ends s (swapMem s) := ((Effect.memWrite _ _ _).flagsWrite _ _ _ _).ends _

theorem bitReg_ends (b : Fin 8) (r : Reg8) (s : State) : Ends s (bitReg b r s) :=
  ((Effect.refl _).flagsWrite _ _ _ _).ends _

theorem bitMem_ends (b : Fin 8) (s : State) : Ends s (bitMem b s) := ((Effect.refl _).flagsWrite _ _ _ _).ends _

theorem resReg_ends (b : Fin 8) (r : Reg8) (s : State) : Ends s (resReg b r s) := (Effect.setReg _ _ _).ends _

theorem resMem_ends (b : Fin 8) (s : State) : Ends s (resMem b s) := (Effect.memWrite _ _ _).ends _

/-- Every instruction: what it can do, whatever its operands and the state. -/
theorem exec_ends (i : Instr) (s : State) : Ends s (exec i s) :=
  match i with
  | .nop => nop_ends s
  | .ldBcN16 n16 => ldPairN16_ends .bc n16 s
  | .ldAtBcA => ldBcFromA_ends s
  | .incBc => incPair_ends .bc s
  | .incB => incReg_ends .b s
  | .decB => decReg_ends .b s
  | .ldBN8 n8 => ldRegN8_ends .b n8 s
  | .addHlBc => addHlPair_ends .bc s
  | .ldAAtBc => ldAFromBc_ends s
  | .decBc => decPair_ends .bc s
  | .incC => incReg_ends .c s
  | .decC => decReg_ends .c s
  | .ldCN8 n8 => ldRegN8_ends .c n8 s
  | .ldDeN16 n16 => ldPairN16_ends .de n16 s
  | .ldAtDeA => ldDeFromA_ends s
  | .incDe => incPair_ends .de s
  | .incD => incReg_ends .d s
  | .decD => decReg_ends .d s
  | .ldDN8 n8 => ldRegN8_ends .d n8 s
  | .jrE8 e8 => jr_ends e8 s
  | .addHlDe => addHlPair_ends .de s
  | .ldAAtDe => ldAFromDe_ends s
  | .decDe => decPair_ends .de s
  | .incE => incReg_ends .e s
  | .decE => decReg_ends .e s
  | .ldEN8 n8 => ldRegN8_ends .e n8 s
  | .jrNzE8 e8 => jrCc_ends .nz e8 s
  | .ldHlN16 n16 => ldPairN16_ends .hl n16 s
  | .ldAtHliA => ldHliFromA_ends s
  | .incHl => incPair_ends .hl s
  | .incH => incReg_ends .h s
  | .decH => decReg_ends .h s
  | .ldHN8 n8 => ldRegN8_ends .h n8 s
  | .jrZE8 e8 => jrCc_ends .z e8 s
  | .addHlHl => addHlPair_ends .hl s
  | .ldAAtHli => ldAFromHli_ends s
  | .decHl => decPair_ends .hl s
  | .incL => incReg_ends .l s
  | .decL => decReg_ends .l s
  | .ldLN8 n8 => ldRegN8_ends .l n8 s
  | .ldSpN16 n16 => ldPairN16_ends .sp n16 s
  | .ldAtHldA => ldHldFromA_ends s
  | .incSp => incPair_ends .sp s
  | .incAtHl => incMem_ends s
  | .decAtHl => decMem_ends s
  | .ldAtHlN8 n8 => ldMemN8_ends n8 s
  | .addHlSp => addHlPair_ends .sp s
  | .ldAAtHld => ldAFromHld_ends s
  | .decSp => decPair_ends .sp s
  | .incA => incReg_ends .a s
  | .decA => decReg_ends .a s
  | .ldAN8 n8 => ldRegN8_ends .a n8 s
  | .ldBB => ldReg_ends .b .b s
  | .ldBC => ldReg_ends .b .c s
  | .ldBD => ldReg_ends .b .d s
  | .ldBE => ldReg_ends .b .e s
  | .ldBH => ldReg_ends .b .h s
  | .ldBL => ldReg_ends .b .l s
  | .ldBAtHl => ldRegMem_ends .b s
  | .ldBA => ldReg_ends .b .a s
  | .ldCB => ldReg_ends .c .b s
  | .ldCC => ldReg_ends .c .c s
  | .ldCD => ldReg_ends .c .d s
  | .ldCE => ldReg_ends .c .e s
  | .ldCH => ldReg_ends .c .h s
  | .ldCL => ldReg_ends .c .l s
  | .ldCAtHl => ldRegMem_ends .c s
  | .ldCA => ldReg_ends .c .a s
  | .ldDB => ldReg_ends .d .b s
  | .ldDC => ldReg_ends .d .c s
  | .ldDD => ldReg_ends .d .d s
  | .ldDE => ldReg_ends .d .e s
  | .ldDH => ldReg_ends .d .h s
  | .ldDL => ldReg_ends .d .l s
  | .ldDAtHl => ldRegMem_ends .d s
  | .ldDA => ldReg_ends .d .a s
  | .ldEB => ldReg_ends .e .b s
  | .ldEC => ldReg_ends .e .c s
  | .ldED => ldReg_ends .e .d s
  | .ldEE => ldReg_ends .e .e s
  | .ldEH => ldReg_ends .e .h s
  | .ldEL => ldReg_ends .e .l s
  | .ldEAtHl => ldRegMem_ends .e s
  | .ldEA => ldReg_ends .e .a s
  | .ldHB => ldReg_ends .h .b s
  | .ldHC => ldReg_ends .h .c s
  | .ldHD => ldReg_ends .h .d s
  | .ldHE => ldReg_ends .h .e s
  | .ldHH => ldReg_ends .h .h s
  | .ldHL => ldReg_ends .h .l s
  | .ldHAtHl => ldRegMem_ends .h s
  | .ldHA => ldReg_ends .h .a s
  | .ldLB => ldReg_ends .l .b s
  | .ldLC => ldReg_ends .l .c s
  | .ldLD => ldReg_ends .l .d s
  | .ldLE => ldReg_ends .l .e s
  | .ldLH => ldReg_ends .l .h s
  | .ldLL => ldReg_ends .l .l s
  | .ldLAtHl => ldRegMem_ends .l s
  | .ldLA => ldReg_ends .l .a s
  | .ldAtHlB => ldMemReg_ends .b s
  | .ldAtHlC => ldMemReg_ends .c s
  | .ldAtHlD => ldMemReg_ends .d s
  | .ldAtHlE => ldMemReg_ends .e s
  | .ldAtHlH => ldMemReg_ends .h s
  | .ldAtHlL => ldMemReg_ends .l s
  | .halt => halt_ends s
  | .ldAtHlA => ldMemReg_ends .a s
  | .ldAB => ldReg_ends .a .b s
  | .ldAC => ldReg_ends .a .c s
  | .ldAD => ldReg_ends .a .d s
  | .ldAE => ldReg_ends .a .e s
  | .ldAH => ldReg_ends .a .h s
  | .ldAL => ldReg_ends .a .l s
  | .ldAAtHl => ldRegMem_ends .a s
  | .ldAA => ldReg_ends .a .a s
  | .addAB => aluReg_ends .add .b s
  | .addAC => aluReg_ends .add .c s
  | .addAD => aluReg_ends .add .d s
  | .addAE => aluReg_ends .add .e s
  | .addAH => aluReg_ends .add .h s
  | .addAL => aluReg_ends .add .l s
  | .addAAtHl => aluMem_ends .add s
  | .addAA => aluReg_ends .add .a s
  | .adcAB => aluReg_ends .adc .b s
  | .adcAC => aluReg_ends .adc .c s
  | .adcAD => aluReg_ends .adc .d s
  | .adcAE => aluReg_ends .adc .e s
  | .adcAH => aluReg_ends .adc .h s
  | .adcAL => aluReg_ends .adc .l s
  | .adcAAtHl => aluMem_ends .adc s
  | .adcAA => aluReg_ends .adc .a s
  | .subB => aluReg_ends .sub .b s
  | .subC => aluReg_ends .sub .c s
  | .subD => aluReg_ends .sub .d s
  | .subE => aluReg_ends .sub .e s
  | .subH => aluReg_ends .sub .h s
  | .subL => aluReg_ends .sub .l s
  | .subAtHl => aluMem_ends .sub s
  | .subA => aluReg_ends .sub .a s
  | .sbcAB => aluReg_ends .sbc .b s
  | .sbcAC => aluReg_ends .sbc .c s
  | .sbcAD => aluReg_ends .sbc .d s
  | .sbcAE => aluReg_ends .sbc .e s
  | .sbcAH => aluReg_ends .sbc .h s
  | .sbcAL => aluReg_ends .sbc .l s
  | .sbcAAtHl => aluMem_ends .sbc s
  | .sbcAA => aluReg_ends .sbc .a s
  | .andB => aluReg_ends .and .b s
  | .andC => aluReg_ends .and .c s
  | .andD => aluReg_ends .and .d s
  | .andE => aluReg_ends .and .e s
  | .andH => aluReg_ends .and .h s
  | .andL => aluReg_ends .and .l s
  | .andAtHl => aluMem_ends .and s
  | .andA => aluReg_ends .and .a s
  | .xorB => aluReg_ends .xor .b s
  | .xorC => aluReg_ends .xor .c s
  | .xorD => aluReg_ends .xor .d s
  | .xorE => aluReg_ends .xor .e s
  | .xorH => aluReg_ends .xor .h s
  | .xorL => aluReg_ends .xor .l s
  | .xorAtHl => aluMem_ends .xor s
  | .xorA => aluReg_ends .xor .a s
  | .orB => aluReg_ends .or .b s
  | .orC => aluReg_ends .or .c s
  | .orD => aluReg_ends .or .d s
  | .orE => aluReg_ends .or .e s
  | .orH => aluReg_ends .or .h s
  | .orL => aluReg_ends .or .l s
  | .orAtHl => aluMem_ends .or s
  | .orA => aluReg_ends .or .a s
  | .cpB => aluReg_ends .cp .b s
  | .cpC => aluReg_ends .cp .c s
  | .cpD => aluReg_ends .cp .d s
  | .cpE => aluReg_ends .cp .e s
  | .cpH => aluReg_ends .cp .h s
  | .cpL => aluReg_ends .cp .l s
  | .cpAtHl => aluMem_ends .cp s
  | .cpA => aluReg_ends .cp .a s
  | .popBc => pop_ends .bc s
  | .jpNzN16 n16 => jpCc_ends .nz n16 s
  | .jpN16 n16 => jp_ends n16 s
  | .pushBc => push_ends .bc s
  | .addAN8 n8 => aluN8_ends .add n8 s
  | .rst00 => rst_ends 0 s
  | .ret => ret_ends s
  | .jpZN16 n16 => jpCc_ends .z n16 s
  | .callN16 n16 => call_ends n16 s
  | .adcAN8 n8 => aluN8_ends .adc n8 s
  | .rst08 => rst_ends 1 s
  | .popDe => pop_ends .de s
  | .pushDe => push_ends .de s
  | .subN8 n8 => aluN8_ends .sub n8 s
  | .rst10 => rst_ends 2 s
  | .reti => reti_ends s
  | .sbcAN8 n8 => aluN8_ends .sbc n8 s
  | .rst18 => rst_ends 3 s
  | .ldhAtN8A n8 => ldhN8FromA_ends n8 s
  | .popHl => pop_ends .hl s
  | .ldAtCA => ldCFromA_ends s
  | .pushHl => push_ends .hl s
  | .andN8 n8 => aluN8_ends .and n8 s
  | .rst20 => rst_ends 4 s
  | .ldAtN16A n16 => ldN16FromA_ends n16 s
  | .xorN8 n8 => aluN8_ends .xor n8 s
  | .rst28 => rst_ends 5 s
  | .ldhAAtN8 n8 => ldhAFromN8_ends n8 s
  | .popAf => pop_ends .af s
  | .ldAAtC => ldAFromC_ends s
  | .di => di_ends s
  | .pushAf => push_ends .af s
  | .orN8 n8 => aluN8_ends .or n8 s
  | .rst30 => rst_ends 6 s
  | .ldAAtN16 n16 => ldAFromN16_ends n16 s
  | .ei => ei_ends s
  | .cpN8 n8 => aluN8_ends .cp n8 s
  | .rst38 => rst_ends 7 s
  | .rlB => rlReg_ends .b s
  | .rlC => rlReg_ends .c s
  | .rlD => rlReg_ends .d s
  | .rlE => rlReg_ends .e s
  | .rlH => rlReg_ends .h s
  | .rlL => rlReg_ends .l s
  | .rlAtHl => rlMem_ends s
  | .rlA => rlReg_ends .a s
  | .swapB => swapReg_ends .b s
  | .swapC => swapReg_ends .c s
  | .swapD => swapReg_ends .d s
  | .swapE => swapReg_ends .e s
  | .swapH => swapReg_ends .h s
  | .swapL => swapReg_ends .l s
  | .swapAtHl => swapMem_ends s
  | .swapA => swapReg_ends .a s
  | .bit0B => bitReg_ends 0 .b s
  | .bit0C => bitReg_ends 0 .c s
  | .bit0D => bitReg_ends 0 .d s
  | .bit0E => bitReg_ends 0 .e s
  | .bit0H => bitReg_ends 0 .h s
  | .bit0L => bitReg_ends 0 .l s
  | .bit0AtHl => bitMem_ends 0 s
  | .bit0A => bitReg_ends 0 .a s
  | .bit1B => bitReg_ends 1 .b s
  | .bit1C => bitReg_ends 1 .c s
  | .bit1D => bitReg_ends 1 .d s
  | .bit1E => bitReg_ends 1 .e s
  | .bit1H => bitReg_ends 1 .h s
  | .bit1L => bitReg_ends 1 .l s
  | .bit1AtHl => bitMem_ends 1 s
  | .bit1A => bitReg_ends 1 .a s
  | .bit2B => bitReg_ends 2 .b s
  | .bit2C => bitReg_ends 2 .c s
  | .bit2D => bitReg_ends 2 .d s
  | .bit2E => bitReg_ends 2 .e s
  | .bit2H => bitReg_ends 2 .h s
  | .bit2L => bitReg_ends 2 .l s
  | .bit2AtHl => bitMem_ends 2 s
  | .bit2A => bitReg_ends 2 .a s
  | .bit3B => bitReg_ends 3 .b s
  | .bit3C => bitReg_ends 3 .c s
  | .bit3D => bitReg_ends 3 .d s
  | .bit3E => bitReg_ends 3 .e s
  | .bit3H => bitReg_ends 3 .h s
  | .bit3L => bitReg_ends 3 .l s
  | .bit3AtHl => bitMem_ends 3 s
  | .bit3A => bitReg_ends 3 .a s
  | .bit4B => bitReg_ends 4 .b s
  | .bit4C => bitReg_ends 4 .c s
  | .bit4D => bitReg_ends 4 .d s
  | .bit4E => bitReg_ends 4 .e s
  | .bit4H => bitReg_ends 4 .h s
  | .bit4L => bitReg_ends 4 .l s
  | .bit4AtHl => bitMem_ends 4 s
  | .bit4A => bitReg_ends 4 .a s
  | .bit5B => bitReg_ends 5 .b s
  | .bit5C => bitReg_ends 5 .c s
  | .bit5D => bitReg_ends 5 .d s
  | .bit5E => bitReg_ends 5 .e s
  | .bit5H => bitReg_ends 5 .h s
  | .bit5L => bitReg_ends 5 .l s
  | .bit5AtHl => bitMem_ends 5 s
  | .bit5A => bitReg_ends 5 .a s
  | .bit6B => bitReg_ends 6 .b s
  | .bit6C => bitReg_ends 6 .c s
  | .bit6D => bitReg_ends 6 .d s
  | .bit6E => bitReg_ends 6 .e s
  | .bit6H => bitReg_ends 6 .h s
  | .bit6L => bitReg_ends 6 .l s
  | .bit6AtHl => bitMem_ends 6 s
  | .bit6A => bitReg_ends 6 .a s
  | .bit7B => bitReg_ends 7 .b s
  | .bit7C => bitReg_ends 7 .c s
  | .bit7D => bitReg_ends 7 .d s
  | .bit7E => bitReg_ends 7 .e s
  | .bit7H => bitReg_ends 7 .h s
  | .bit7L => bitReg_ends 7 .l s
  | .bit7AtHl => bitMem_ends 7 s
  | .bit7A => bitReg_ends 7 .a s
  | .res0B => resReg_ends 0 .b s
  | .res0C => resReg_ends 0 .c s
  | .res0D => resReg_ends 0 .d s
  | .res0E => resReg_ends 0 .e s
  | .res0H => resReg_ends 0 .h s
  | .res0L => resReg_ends 0 .l s
  | .res0AtHl => resMem_ends 0 s
  | .res0A => resReg_ends 0 .a s
  | .res1B => resReg_ends 1 .b s
  | .res1C => resReg_ends 1 .c s
  | .res1D => resReg_ends 1 .d s
  | .res1E => resReg_ends 1 .e s
  | .res1H => resReg_ends 1 .h s
  | .res1L => resReg_ends 1 .l s
  | .res1AtHl => resMem_ends 1 s
  | .res1A => resReg_ends 1 .a s
  | .res2B => resReg_ends 2 .b s
  | .res2C => resReg_ends 2 .c s
  | .res2D => resReg_ends 2 .d s
  | .res2E => resReg_ends 2 .e s
  | .res2H => resReg_ends 2 .h s
  | .res2L => resReg_ends 2 .l s
  | .res2AtHl => resMem_ends 2 s
  | .res2A => resReg_ends 2 .a s
  | .res3B => resReg_ends 3 .b s
  | .res3C => resReg_ends 3 .c s
  | .res3D => resReg_ends 3 .d s
  | .res3E => resReg_ends 3 .e s
  | .res3H => resReg_ends 3 .h s
  | .res3L => resReg_ends 3 .l s
  | .res3AtHl => resMem_ends 3 s
  | .res3A => resReg_ends 3 .a s
  | .res4B => resReg_ends 4 .b s
  | .res4C => resReg_ends 4 .c s
  | .res4D => resReg_ends 4 .d s
  | .res4E => resReg_ends 4 .e s
  | .res4H => resReg_ends 4 .h s
  | .res4L => resReg_ends 4 .l s
  | .res4AtHl => resMem_ends 4 s
  | .res4A => resReg_ends 4 .a s
  | .res5B => resReg_ends 5 .b s
  | .res5C => resReg_ends 5 .c s
  | .res5D => resReg_ends 5 .d s
  | .res5E => resReg_ends 5 .e s
  | .res5H => resReg_ends 5 .h s
  | .res5L => resReg_ends 5 .l s
  | .res5AtHl => resMem_ends 5 s
  | .res5A => resReg_ends 5 .a s
  | .res6B => resReg_ends 6 .b s
  | .res6C => resReg_ends 6 .c s
  | .res6D => resReg_ends 6 .d s
  | .res6E => resReg_ends 6 .e s
  | .res6H => resReg_ends 6 .h s
  | .res6L => resReg_ends 6 .l s
  | .res6AtHl => resMem_ends 6 s
  | .res6A => resReg_ends 6 .a s
  | .res7B => resReg_ends 7 .b s
  | .res7C => resReg_ends 7 .c s
  | .res7D => resReg_ends 7 .d s
  | .res7E => resReg_ends 7 .e s
  | .res7H => resReg_ends 7 .h s
  | .res7L => resReg_ends 7 .l s
  | .res7AtHl => resMem_ends 7 s
  | .res7A => resReg_ends 7 .a s

/-- The effect of an instruction that answers a next state. -/
theorem exec_effect {i : Instr} {s t : State} (h : exec i s = .next t) : Effect s t :=
  (exec_ends i s t h).1

/-- The cycles an instruction returns lie in 4..24 (R124). -/
theorem exec_cycles {i : Instr} {s t : State} (h : exec i s = .next t) : 4 ≤ t.cycles ∧ t.cycles ≤ 24 :=
  (exec_ends i s t h).2

end Sys2Proof.Machine
end

