-- ==== Sys2Proof/Laws/Iteration.lean ====
section
/-! SUPPORT. What the two parts of an iteration after the instruction leave alone, field by field, and that they change
memory only at storable addresses. -/

namespace Sys2Proof.Machine

section
variable (s : State)

/-! ### The timer -/

theorem renderScanline_eq (y : Nat) : s.renderScanline y = s.setBack (s.renderScanline y).back := by
  unfold State.renderScanline
  split <;> rfl


@[simp] theorem renderScanline_a (y : Nat) : (s.renderScanline y).a = s.a := by
  rw [renderScanline_eq]; rfl

@[simp] theorem renderScanline_f (y : Nat) : (s.renderScanline y).f = s.f := by
  rw [renderScanline_eq]; rfl

@[simp] theorem renderScanline_b (y : Nat) : (s.renderScanline y).b = s.b := by
  rw [renderScanline_eq]; rfl

@[simp] theorem renderScanline_c (y : Nat) : (s.renderScanline y).c = s.c := by
  rw [renderScanline_eq]; rfl

@[simp] theorem renderScanline_d (y : Nat) : (s.renderScanline y).d = s.d := by
  rw [renderScanline_eq]; rfl

@[simp] theorem renderScanline_e (y : Nat) : (s.renderScanline y).e = s.e := by
  rw [renderScanline_eq]; rfl

@[simp] theorem renderScanline_h (y : Nat) : (s.renderScanline y).h = s.h := by
  rw [renderScanline_eq]; rfl

@[simp] theorem renderScanline_l (y : Nat) : (s.renderScanline y).l = s.l := by
  rw [renderScanline_eq]; rfl

@[simp] theorem renderScanline_sp (y : Nat) : (s.renderScanline y).sp = s.sp := by
  rw [renderScanline_eq]; rfl

@[simp] theorem renderScanline_pc (y : Nat) : (s.renderScanline y).pc = s.pc := by
  rw [renderScanline_eq]; rfl

@[simp] theorem renderScanline_ime (y : Nat) : (s.renderScanline y).ime = s.ime := by
  rw [renderScanline_eq]; rfl

@[simp] theorem renderScanline_halted (y : Nat) : (s.renderScanline y).halted = s.halted := by
  rw [renderScanline_eq]; rfl

@[simp] theorem renderScanline_fault (y : Nat) : (s.renderScanline y).fault = s.fault := by
  rw [renderScanline_eq]; rfl

@[simp] theorem renderScanline_params (y : Nat) : (s.renderScanline y).params = s.params := by
  rw [renderScanline_eq]; rfl

@[simp] theorem renderScanline_cycles (y : Nat) : (s.renderScanline y).cycles = s.cycles := by
  rw [renderScanline_eq]; rfl

@[simp] theorem renderScanline_extra (y : Nat) : (s.renderScanline y).extra = s.extra := by
  rw [renderScanline_eq]; rfl

@[simp] theorem renderScanline_mem (y : Nat) : (s.renderScanline y).mem = s.mem := by
  rw [renderScanline_eq]; rfl

@[simp] theorem renderScanline_ly (y : Nat) : (s.renderScanline y).ly = s.ly := by
  rw [renderScanline_eq]; rfl

@[simp] theorem renderScanline_acc (y : Nat) : (s.renderScanline y).acc = s.acc := by
  rw [renderScanline_eq]; rfl

@[simp] theorem renderScanline_front (y : Nat) : (s.renderScanline y).front = s.front := by
  rw [renderScanline_eq]; rfl

theorem renderVisible_eq : ∃ b, s.renderVisible = s.setBack b := by
  unfold State.renderVisible
  split
  · exact ⟨_, renderScanline_eq s _⟩
  · exact ⟨s.back, rfl⟩

/-- VBlank entry changes memory by the request at most (R372). -/
theorem enterVBlank_eq :
    ∃ m f, s.enterVBlank = (s.setFront f).setMem m ∧ (m = s.mem ∨ m = s.mem.write 0xFF0F (s.mem.read 0xFF0F ||| 0x01)) := by
  unfold State.enterVBlank
  split
  · exact ⟨_, _, rfl, .inr rfl⟩
  · exact ⟨s.mem, s.front, rfl, .inl rfl⟩

theorem wrapLine_eq : ∃ l, s.wrapLine = s.setLy l := by
  unfold State.wrapLine
  split
  · exact ⟨_, rfl⟩
  · exact ⟨s.ly, rfl⟩

/-- A line boundary changes memory by a write to IF at most, LY and the buffers (R370). -/
theorem lineBoundary_eq :
    ∃ m ly b f, s.lineBoundary = (((s.setMem m).setLy ly).setBack b).setFront f ∧
      (m = s.mem ∨ m = s.mem.write 0xFF0F (s.mem.read 0xFF0F ||| 0x01)) := by
  unfold State.lineBoundary
  obtain ⟨b, hb⟩ := renderVisible_eq s
  rw [hb]
  obtain ⟨m, f, he, hm⟩ := enterVBlank_eq (s.setBack b).advanceLine
  rw [he]
  obtain ⟨l, hl⟩ := wrapLine_eq (((s.setBack b).advanceLine.setFront f).setMem m)
  rw [hl]
  exact ⟨m, l, b, f, rfl, hm⟩

theorem setters_reorder (m : Memory) (l : Byte) (acc : Nat) (b f : FrameBuffer) :
    ((((s.setAcc acc).setMem m).setLy l).setBack b).setFront f =
      ((((s.setMem m).setLy l).setAcc acc).setBack b).setFront f := rfl

theorem setAcc_alone (acc : Nat) :
    s.setAcc acc = ((((s.setMem s.mem).setLy s.ly).setAcc acc).setBack s.back).setFront s.front := by
  cases s; rfl

/-- The timer changes memory by a write to IF at most, LY, acc and the buffers (R370). -/
theorem updateScanline_eq (n : Nat) :
    ∃ m ly acc b f, s.updateScanline n = ((((s.setMem m).setLy ly).setAcc acc).setBack b).setFront f ∧
      (m = s.mem ∨ m = s.mem.write 0xFF0F (s.mem.read 0xFF0F ||| 0x01)) := by
  unfold State.updateScanline
  split
  · generalize s.acc + n - cyclesPerLine = acc
    obtain ⟨m, l, b, f, h, hm⟩ := lineBoundary_eq (s.setAcc acc)
    exact ⟨m, l, acc, b, f, h.trans (setters_reorder s m l acc b f), hm⟩
  · exact ⟨s.mem, s.ly, s.acc + n, s.back, s.front, setAcc_alone s _, .inl rfl⟩

@[simp] theorem updateScanline_a (n : Nat) : (s.updateScanline n).a = s.a := by
  obtain ⟨_, _, _, _, _, h, _⟩ := updateScanline_eq s n
  rw [h]; rfl

@[simp] theorem updateScanline_f (n : Nat) : (s.updateScanline n).f = s.f := by
  obtain ⟨_, _, _, _, _, h, _⟩ := updateScanline_eq s n
  rw [h]; rfl

@[simp] theorem updateScanline_b (n : Nat) : (s.updateScanline n).b = s.b := by
  obtain ⟨_, _, _, _, _, h, _⟩ := updateScanline_eq s n
  rw [h]; rfl

@[simp] theorem updateScanline_c (n : Nat) : (s.updateScanline n).c = s.c := by
  obtain ⟨_, _, _, _, _, h, _⟩ := updateScanline_eq s n
  rw [h]; rfl

@[simp] theorem updateScanline_d (n : Nat) : (s.updateScanline n).d = s.d := by
  obtain ⟨_, _, _, _, _, h, _⟩ := updateScanline_eq s n
  rw [h]; rfl

@[simp] theorem updateScanline_e (n : Nat) : (s.updateScanline n).e = s.e := by
  obtain ⟨_, _, _, _, _, h, _⟩ := updateScanline_eq s n
  rw [h]; rfl

@[simp] theorem updateScanline_h (n : Nat) : (s.updateScanline n).h = s.h := by
  obtain ⟨_, _, _, _, _, h, _⟩ := updateScanline_eq s n
  rw [h]; rfl

@[simp] theorem updateScanline_l (n : Nat) : (s.updateScanline n).l = s.l := by
  obtain ⟨_, _, _, _, _, h, _⟩ := updateScanline_eq s n
  rw [h]; rfl

@[simp] theorem updateScanline_sp (n : Nat) : (s.updateScanline n).sp = s.sp := by
  obtain ⟨_, _, _, _, _, h, _⟩ := updateScanline_eq s n
  rw [h]; rfl

@[simp] theorem updateScanline_pc (n : Nat) : (s.updateScanline n).pc = s.pc := by
  obtain ⟨_, _, _, _, _, h, _⟩ := updateScanline_eq s n
  rw [h]; rfl

@[simp] theorem updateScanline_ime (n : Nat) : (s.updateScanline n).ime = s.ime := by
  obtain ⟨_, _, _, _, _, h, _⟩ := updateScanline_eq s n
  rw [h]; rfl

@[simp] theorem updateScanline_halted (n : Nat) : (s.updateScanline n).halted = s.halted := by
  obtain ⟨_, _, _, _, _, h, _⟩ := updateScanline_eq s n
  rw [h]; rfl

@[simp] theorem updateScanline_fault (n : Nat) : (s.updateScanline n).fault = s.fault := by
  obtain ⟨_, _, _, _, _, h, _⟩ := updateScanline_eq s n
  rw [h]; rfl

@[simp] theorem updateScanline_params (n : Nat) : (s.updateScanline n).params = s.params := by
  obtain ⟨_, _, _, _, _, h, _⟩ := updateScanline_eq s n
  rw [h]; rfl

@[simp] theorem updateScanline_cycles (n : Nat) : (s.updateScanline n).cycles = s.cycles := by
  obtain ⟨_, _, _, _, _, h, _⟩ := updateScanline_eq s n
  rw [h]; rfl

@[simp] theorem updateScanline_extra (n : Nat) : (s.updateScanline n).extra = s.extra := by
  obtain ⟨_, _, _, _, _, h, _⟩ := updateScanline_eq s n
  rw [h]; rfl

/-- The timer changes memory by the VBlank request at most (R372). -/
theorem updateScanline_mem (n : Nat) :
    (s.updateScanline n).mem = s.mem ∨ (s.updateScanline n).mem = s.mem.write 0xFF0F (s.mem.read 0xFF0F ||| 0x01) := by
  obtain ⟨_, _, _, _, _, h, hm⟩ := updateScanline_eq s n
  rw [h]
  exact hm

theorem updateScanline_memory (n : Nat) : CpuWrites s.mem (s.updateScanline n).mem := by
  rcases updateScanline_mem s n with h | h <;> rw [h]
  · exact .refl _
  · exact .write 0xFF0F _ (.refl _) (by decide)

/-! #### The line boundary -/

theorem renderScanline_setAcc (k y : Nat) : (s.setAcc k).renderScanline y = (s.renderScanline y).setAcc k := by
  unfold State.renderScanline
  have hl : (s.setAcc k).lcdc = s.lcdc := rfl
  have hs : (s.setAcc k).scanline y = s.scanline y := rfl
  rw [hl, hs]
  split <;> rfl

theorem renderVisible_ly : s.renderVisible.ly = s.ly := by
  obtain ⟨b, h⟩ := renderVisible_eq s
  rw [h]
  rfl

theorem lineBoundary_acc : s.lineBoundary.acc = s.acc := by
  obtain ⟨m, l, b, f, h, hm⟩ := lineBoundary_eq s
  rw [h]
  rfl

theorem cyclesPerLine_eq : cyclesPerLine = 456 := by decide

/-- Inside a line the timer only counts. -/
theorem updateScanline_of_lt (c : Nat) (h : s.acc + c < 456) : s.updateScanline c = s.setAcc (s.acc + c) := by
  unfold State.updateScanline
  rw [if_neg (by rw [cyclesPerLine_eq]; omega)]

/-- At the end of a line the timer crosses one boundary. -/
theorem updateScanline_of_ge (c : Nat) (h : 456 ≤ s.acc + c) :
    s.updateScanline c = (s.setAcc (s.acc + c - 456)).lineBoundary := by
  unfold State.updateScanline
  rw [if_pos (by rw [cyclesPerLine_eq]; omega), cyclesPerLine_eq]

@[simp] theorem updateScanline_reg (n : Nat) (r : Reg8) : (s.updateScanline n).reg r = s.reg r := by
  cases r <;> simp [State.reg]

/-! ### The interrupt controller -/

/-- The wake of R405 in one form. -/
theorem wake_of_pending : s.wake = s.setHalted (if s.pending = 0 then s.halted else false) := by
  unfold State.wake
  by_cases hp : s.pending = 0
  · rw [if_neg (fun h => h.1 hp), if_pos hp]
    rfl
  · rw [if_neg hp]
    split
    · rfl
    · next h =>
      have hh : s.halted = false := by
        cases hs : s.halted
        · rfl
        · exact absurd ⟨hp, hs⟩ h
      rw [← hh]
      rfl

theorem wake_eq : ∃ b, s.wake = s.setHalted b := by
  unfold State.wake
  split
  · exact ⟨_, rfl⟩
  · exact ⟨s.halted, rfl⟩

theorem dispatchVBlank_eq :
    s.dispatchVBlank =
      (((s.setIme false).setMem (s.mem.write 0xFF0F (s.ifReg &&& 0xFE))).push16 s.pc).setPc vblankVector := rfl

/-- The controller either returns 0 and at most wakes the CPU, or dispatches (R404). -/
theorem handleInterrupts_cases :
    s.handleInterrupts = s.wake.setExtra 0 ∨ s.handleInterrupts = s.wake.dispatchVBlank.setExtra dispatchCycles := by
  unfold State.handleInterrupts
  dsimp only
  repeat' split
  · exact .inl rfl
  · exact .inr rfl
  · exact .inl rfl

@[simp] theorem handleInterrupts_a : s.handleInterrupts.a = s.a := by
  obtain ⟨_, hw⟩ := wake_eq s
  rcases handleInterrupts_cases s with h | h <;> rw [h, hw]
  · rfl
  · rw [dispatchVBlank_eq]; simp

@[simp] theorem handleInterrupts_f : s.handleInterrupts.f = s.f := by
  obtain ⟨_, hw⟩ := wake_eq s
  rcases handleInterrupts_cases s with h | h <;> rw [h, hw]
  · rfl
  · rw [dispatchVBlank_eq]; simp

@[simp] theorem handleInterrupts_b : s.handleInterrupts.b = s.b := by
  obtain ⟨_, hw⟩ := wake_eq s
  rcases handleInterrupts_cases s with h | h <;> rw [h, hw]
  · rfl
  · rw [dispatchVBlank_eq]; simp

@[simp] theorem handleInterrupts_c : s.handleInterrupts.c = s.c := by
  obtain ⟨_, hw⟩ := wake_eq s
  rcases handleInterrupts_cases s with h | h <;> rw [h, hw]
  · rfl
  · rw [dispatchVBlank_eq]; simp

@[simp] theorem handleInterrupts_d : s.handleInterrupts.d = s.d := by
  obtain ⟨_, hw⟩ := wake_eq s
  rcases handleInterrupts_cases s with h | h <;> rw [h, hw]
  · rfl
  · rw [dispatchVBlank_eq]; simp

@[simp] theorem handleInterrupts_e : s.handleInterrupts.e = s.e := by
  obtain ⟨_, hw⟩ := wake_eq s
  rcases handleInterrupts_cases s with h | h <;> rw [h, hw]
  · rfl
  · rw [dispatchVBlank_eq]; simp

@[simp] theorem handleInterrupts_h : s.handleInterrupts.h = s.h := by
  obtain ⟨_, hw⟩ := wake_eq s
  rcases handleInterrupts_cases s with h | h <;> rw [h, hw]
  · rfl
  · rw [dispatchVBlank_eq]; simp

@[simp] theorem handleInterrupts_l : s.handleInterrupts.l = s.l := by
  obtain ⟨_, hw⟩ := wake_eq s
  rcases handleInterrupts_cases s with h | h <;> rw [h, hw]
  · rfl
  · rw [dispatchVBlank_eq]; simp

@[simp] theorem handleInterrupts_fault : s.handleInterrupts.fault = s.fault := by
  obtain ⟨_, hw⟩ := wake_eq s
  rcases handleInterrupts_cases s with h | h <;> rw [h, hw]
  · rfl
  · rw [dispatchVBlank_eq]; simp

@[simp] theorem handleInterrupts_ly : s.handleInterrupts.ly = s.ly := by
  obtain ⟨_, hw⟩ := wake_eq s
  rcases handleInterrupts_cases s with h | h <;> rw [h, hw]
  · rfl
  · rw [dispatchVBlank_eq]; simp

@[simp] theorem handleInterrupts_acc : s.handleInterrupts.acc = s.acc := by
  obtain ⟨_, hw⟩ := wake_eq s
  rcases handleInterrupts_cases s with h | h <;> rw [h, hw]
  · rfl
  · rw [dispatchVBlank_eq]; simp

@[simp] theorem handleInterrupts_back : s.handleInterrupts.back = s.back := by
  obtain ⟨_, hw⟩ := wake_eq s
  rcases handleInterrupts_cases s with h | h <;> rw [h, hw]
  · rfl
  · rw [dispatchVBlank_eq]; simp

@[simp] theorem handleInterrupts_front : s.handleInterrupts.front = s.front := by
  obtain ⟨_, hw⟩ := wake_eq s
  rcases handleInterrupts_cases s with h | h <;> rw [h, hw]
  · rfl
  · rw [dispatchVBlank_eq]; simp

@[simp] theorem handleInterrupts_params : s.handleInterrupts.params = s.params := by
  obtain ⟨_, hw⟩ := wake_eq s
  rcases handleInterrupts_cases s with h | h <;> rw [h, hw]
  · rfl
  · rw [dispatchVBlank_eq]; simp

@[simp] theorem handleInterrupts_cycles : s.handleInterrupts.cycles = s.cycles := by
  obtain ⟨_, hw⟩ := wake_eq s
  rcases handleInterrupts_cases s with h | h <;> rw [h, hw]
  · rfl
  · rw [dispatchVBlank_eq]; simp

@[simp] theorem handleInterrupts_reg (r : Reg8) : s.handleInterrupts.reg r = s.reg r := by
  cases r <;> simp [State.reg]

theorem handleInterrupts_extra : s.handleInterrupts.extra = 0 ∨ s.handleInterrupts.extra = 20 := by
  rcases handleInterrupts_cases s with h | h <;> rw [h]
  · exact .inl rfl
  · exact .inr rfl

theorem handleInterrupts_memory : CpuWrites s.mem s.handleInterrupts.mem := by
  obtain ⟨b, hw⟩ := wake_eq s
  rcases handleInterrupts_cases s with he | he <;> rw [he, hw]
  · exact .refl _
  · rw [dispatchVBlank_eq, State.setExtra_mem, State.setPc_mem]
    refine CpuWrites.push16 ?_ _
    rw [State.setMem_mem, State.setHalted_mem]
    exact .write 0xFF0F _ (.refl _) (by decide)
end

/-! ### The step -/

/-- How a step can answer a next state: an iteration of a halted CPU, the decode fault, or an iteration that ran an
instruction. -/
theorem step_cases {s t : State} (h : step s = .next t) :
    s.fault = none ∧
      ((s.halted = true ∧ t = s.haltedStep.finishIteration) ∨
        (s.halted = false ∧ ∃ space op n, s.fetch = .illegal space op n ∧ t = s.raiseIllegal space op n) ∨
        (s.halted = false ∧ ∃ i n u, s.fetch = .instr i n ∧ exec i (s.advancePc n) = .next u ∧ t = u.finishIteration)) := by
  unfold step at h
  split at h
  · cases h
  · next hf =>
    refine ⟨hf, ?_⟩
    split at h
    · next hh => cases h; exact .inl ⟨hh, rfl⟩
    · next hh =>
      have hh : s.halted = false := by simpa using hh
      split at h
      · next hd => cases h; exact .inr (.inl ⟨hh, _, _, _, hd, rfl⟩)
      · next hd =>
        split at h
        · next hu => cases h; exact .inr (.inr ⟨hh, _, _, _, hd, hu, rfl⟩)
        · cases h
        · cases h

end Sys2Proof.Machine
end

