-- ==== Sys2Proof/Tests/Slice0.lean ====
section
/-! SUPPORT. The model's own tests: well-formedness, decoding, one-step tests and the witnesses of the statements. Words
come from the encodings of spec/opcode_table.json; expected results from the vectors of spec/95_test_vectors.md. -/

namespace Sys2Proof.Tests

-- One theorem at a time: each kernel evaluation would otherwise hold a thread of its own.
set_option Elab.async false

open Sys2Proof Sys2Proof.Machine

/-! ### Helpers -/

/-- Bytes stored from an address on. -/
def bytesAt (start : Nat) (bytes : List Byte) (m : Memory) : Memory :=
  match bytes with
  | [] => m
  | v :: t => bytesAt (start + 1) t (m.write start v)

/-- The reset state with a program at a program counter. -/
def code (pc : Word) (bytes : List Byte) : State := { State.reset with pc := pc, mem := bytesAt pc.toNat bytes [] }

/-- Other bytes of memory. -/
def State.holds (s : State) (cells : List Host.Cell) : State :=
  { s with mem := cells.foldl (fun m c => m.write c.1 c.2) s.mem }

/-- A state whose IF and IE hold these bytes. -/
def requests (s : State) (ifv ie : Byte) : State := State.holds s [(0xFF0F, ifv), (0xFFFF, ie)]

/-- A step answers the expected registers, memory and timer, and returns (cycles, extra); the buffers are not compared. -/
def stepsTo (s t : State) (cycles extra : Nat) : Bool :=
  match step s with
  | .next u =>
    decide (u.a = t.a ∧ u.f = t.f ∧ u.b = t.b ∧ u.c = t.c ∧ u.d = t.d ∧ u.e = t.e ∧ u.h = t.h ∧ u.l = t.l ∧ u.sp = t.sp ∧
      u.pc = t.pc ∧ u.ime = t.ime ∧ u.halted = t.halted ∧ u.fault = t.fault ∧ u.mem = t.mem ∧ u.ly = t.ly ∧
      (u.fault ≠ none ∨ (u.acc = t.acc ∧ u.cycles = cycles ∧ u.extra = extra)))
  | .fault _ => false
  | .refused _ => false

/-- Whether an outcome is a next state. -/
def answers (r : Result) : Bool :=
  match r with
  | .next _ => true
  | .fault _ => false
  | .refused _ => false

/-- Every vector of a list passes: its start, what the step must change, and the (cycles, extra) it returns. -/
def pass (vectors : List (State × (State → State) × Nat × Nat)) : Bool :=
  vectors.all fun v => stepsTo v.1 (v.2.1 v.1) v.2.2.1 v.2.2.2

theorem exists_of_answers {r : Result} (h : answers r = true) : ∃ t, r = .next t := by
  cases r with
  | next t => exact ⟨t, rfl⟩
  | fault _ => cases h
  | refused _ => cases h

/-- The one check of a decode table: each word gives its instruction and uses all its bytes. -/
def decodes (table : List (List Byte × Instr)) : Bool :=
  table.all fun w => decide (decodeBytes true w.1 = .instr w.2 w.1.length)

/-! ### Well-formedness -/

/-- The ill-formed terms of the one check there is: INFERRED instructions where they are not admitted (R104). -/
theorem test_wellFormed_refuses_inferred :
    (Instr.nop).wellFormed false = false ∧ (Instr.ldAtHlN8 0).wellFormed false = false ∧
      (Instr.addAN8 1).wellFormed false = false ∧ (Instr.rlAtHl).wellFormed false = false ∧
      (Instr.res7AtHl).wellFormed false = false := by decide

/-- The same terms where they are admitted, and a named instruction in both cases (R104). -/
theorem test_wellFormed_admits :
    (Instr.nop).wellFormed true = true ∧ (Instr.res7AtHl).wellFormed true = true ∧
      (Instr.ldBC).wellFormed false = true ∧ (Instr.halt).wellFormed false = true := by decide

/-! ### Decoding: words from the `encoding` column of spec/opcode_table.json, immediates 0xA5 and 0x1234 -/

def words_misc_0 : List (List Byte × Instr) :=
  [([0b00000000], .nop), ([0b01110110], .halt),
   ([0b11110011], .di), ([0b11111011], .ei)]

theorem test_decode_misc : decodes (words_misc_0) = true := by decide +kernel

def words_ld_memory_0 : List (List Byte × Instr) :=
  [([0b00000001, 0b00110100, 0b00010010], .ldBcN16 0x1234), ([0b00000010], .ldAtBcA),
   ([0b00000110, 0b10100101], .ldBN8 0xA5), ([0b00001010], .ldAAtBc),
   ([0b00001110, 0b10100101], .ldCN8 0xA5), ([0b00010001, 0b00110100, 0b00010010], .ldDeN16 0x1234),
   ([0b00010010], .ldAtDeA), ([0b00010110, 0b10100101], .ldDN8 0xA5),
   ([0b00011010], .ldAAtDe), ([0b00011110, 0b10100101], .ldEN8 0xA5),
   ([0b00100001, 0b00110100, 0b00010010], .ldHlN16 0x1234), ([0b00100010], .ldAtHliA),
   ([0b00100110, 0b10100101], .ldHN8 0xA5), ([0b00101010], .ldAAtHli),
   ([0b00101110, 0b10100101], .ldLN8 0xA5), ([0b00110001, 0b00110100, 0b00010010], .ldSpN16 0x1234)]

def words_ld_memory_1 : List (List Byte × Instr) :=
  [([0b00110010], .ldAtHldA), ([0b00110110, 0b10100101], .ldAtHlN8 0xA5),
   ([0b00111010], .ldAAtHld), ([0b00111110, 0b10100101], .ldAN8 0xA5),
   ([0b01000110], .ldBAtHl), ([0b01001110], .ldCAtHl),
   ([0b01010110], .ldDAtHl), ([0b01011110], .ldEAtHl),
   ([0b01100110], .ldHAtHl), ([0b01101110], .ldLAtHl),
   ([0b01110000], .ldAtHlB), ([0b01110001], .ldAtHlC),
   ([0b01110010], .ldAtHlD), ([0b01110011], .ldAtHlE),
   ([0b01110100], .ldAtHlH), ([0b01110101], .ldAtHlL)]

def words_ld_memory_2 : List (List Byte × Instr) :=
  [([0b01110111], .ldAtHlA), ([0b01111110], .ldAAtHl),
   ([0b11100000, 0b10100101], .ldhAtN8A 0xA5), ([0b11100010], .ldAtCA),
   ([0b11101010, 0b00110100, 0b00010010], .ldAtN16A 0x1234), ([0b11110000, 0b10100101], .ldhAAtN8 0xA5),
   ([0b11110010], .ldAAtC), ([0b11111010, 0b00110100, 0b00010010], .ldAAtN16 0x1234)]

theorem test_decode_ld_memory : decodes (words_ld_memory_0 ++ words_ld_memory_1 ++ words_ld_memory_2) = true := by decide +kernel

def words_inc_dec_0 : List (List Byte × Instr) :=
  [([0b00000011], .incBc), ([0b00000100], .incB),
   ([0b00000101], .decB), ([0b00001011], .decBc),
   ([0b00001100], .incC), ([0b00001101], .decC),
   ([0b00010011], .incDe), ([0b00010100], .incD),
   ([0b00010101], .decD), ([0b00011011], .decDe),
   ([0b00011100], .incE), ([0b00011101], .decE),
   ([0b00100011], .incHl), ([0b00100100], .incH),
   ([0b00100101], .decH), ([0b00101011], .decHl)]

def words_inc_dec_1 : List (List Byte × Instr) :=
  [([0b00101100], .incL), ([0b00101101], .decL),
   ([0b00110011], .incSp), ([0b00110100], .incAtHl),
   ([0b00110101], .decAtHl), ([0b00111011], .decSp),
   ([0b00111100], .incA), ([0b00111101], .decA)]

theorem test_decode_inc_dec : decodes (words_inc_dec_0 ++ words_inc_dec_1) = true := by decide +kernel

def words_add_0 : List (List Byte × Instr) :=
  [([0b00001001], .addHlBc), ([0b00011001], .addHlDe),
   ([0b00101001], .addHlHl), ([0b00111001], .addHlSp),
   ([0b10000000], .addAB), ([0b10000001], .addAC),
   ([0b10000010], .addAD), ([0b10000011], .addAE),
   ([0b10000100], .addAH), ([0b10000101], .addAL),
   ([0b10000110], .addAAtHl), ([0b10000111], .addAA),
   ([0b10001000], .adcAB), ([0b10001001], .adcAC),
   ([0b10001010], .adcAD), ([0b10001011], .adcAE)]

def words_add_1 : List (List Byte × Instr) :=
  [([0b10001100], .adcAH), ([0b10001101], .adcAL),
   ([0b10001110], .adcAAtHl), ([0b10001111], .adcAA),
   ([0b11000110, 0b10100101], .addAN8 0xA5), ([0b11001110, 0b10100101], .adcAN8 0xA5)]

theorem test_decode_add : decodes (words_add_0 ++ words_add_1) = true := by decide +kernel

def words_control_0 : List (List Byte × Instr) :=
  [([0b00011000, 0b10100101], .jrE8 0xA5), ([0b00100000, 0b10100101], .jrNzE8 0xA5),
   ([0b00101000, 0b10100101], .jrZE8 0xA5), ([0b11000010, 0b00110100, 0b00010010], .jpNzN16 0x1234),
   ([0b11000011, 0b00110100, 0b00010010], .jpN16 0x1234), ([0b11000111], .rst00),
   ([0b11001001], .ret), ([0b11001010, 0b00110100, 0b00010010], .jpZN16 0x1234),
   ([0b11001101, 0b00110100, 0b00010010], .callN16 0x1234), ([0b11001111], .rst08),
   ([0b11010111], .rst10), ([0b11011001], .reti),
   ([0b11011111], .rst18), ([0b11100111], .rst20),
   ([0b11101111], .rst28), ([0b11110111], .rst30)]

def words_control_1 : List (List Byte × Instr) :=
  [([0b11111111], .rst38)]

theorem test_decode_control : decodes (words_control_0 ++ words_control_1) = true := by decide +kernel

def words_ld_reg_0 : List (List Byte × Instr) :=
  [([0b01000000], .ldBB), ([0b01000001], .ldBC),
   ([0b01000010], .ldBD), ([0b01000011], .ldBE),
   ([0b01000100], .ldBH), ([0b01000101], .ldBL),
   ([0b01000111], .ldBA), ([0b01001000], .ldCB),
   ([0b01001001], .ldCC), ([0b01001010], .ldCD),
   ([0b01001011], .ldCE), ([0b01001100], .ldCH),
   ([0b01001101], .ldCL), ([0b01001111], .ldCA),
   ([0b01010000], .ldDB), ([0b01010001], .ldDC)]

def words_ld_reg_1 : List (List Byte × Instr) :=
  [([0b01010010], .ldDD), ([0b01010011], .ldDE),
   ([0b01010100], .ldDH), ([0b01010101], .ldDL),
   ([0b01010111], .ldDA), ([0b01011000], .ldEB),
   ([0b01011001], .ldEC), ([0b01011010], .ldED),
   ([0b01011011], .ldEE), ([0b01011100], .ldEH),
   ([0b01011101], .ldEL), ([0b01011111], .ldEA),
   ([0b01100000], .ldHB), ([0b01100001], .ldHC),
   ([0b01100010], .ldHD), ([0b01100011], .ldHE)]

def words_ld_reg_2 : List (List Byte × Instr) :=
  [([0b01100100], .ldHH), ([0b01100101], .ldHL),
   ([0b01100111], .ldHA), ([0b01101000], .ldLB),
   ([0b01101001], .ldLC), ([0b01101010], .ldLD),
   ([0b01101011], .ldLE), ([0b01101100], .ldLH),
   ([0b01101101], .ldLL), ([0b01101111], .ldLA),
   ([0b01111000], .ldAB), ([0b01111001], .ldAC),
   ([0b01111010], .ldAD), ([0b01111011], .ldAE),
   ([0b01111100], .ldAH), ([0b01111101], .ldAL)]

def words_ld_reg_3 : List (List Byte × Instr) :=
  [([0b01111111], .ldAA)]

theorem test_decode_ld_reg : decodes (words_ld_reg_0 ++ words_ld_reg_1 ++ words_ld_reg_2 ++ words_ld_reg_3) = true := by decide +kernel

def words_sub_0 : List (List Byte × Instr) :=
  [([0b10010000], .subB), ([0b10010001], .subC),
   ([0b10010010], .subD), ([0b10010011], .subE),
   ([0b10010100], .subH), ([0b10010101], .subL),
   ([0b10010110], .subAtHl), ([0b10010111], .subA),
   ([0b10011000], .sbcAB), ([0b10011001], .sbcAC),
   ([0b10011010], .sbcAD), ([0b10011011], .sbcAE),
   ([0b10011100], .sbcAH), ([0b10011101], .sbcAL),
   ([0b10011110], .sbcAAtHl), ([0b10011111], .sbcAA)]

def words_sub_1 : List (List Byte × Instr) :=
  [([0b11010110, 0b10100101], .subN8 0xA5), ([0b11011110, 0b10100101], .sbcAN8 0xA5)]

theorem test_decode_sub : decodes (words_sub_0 ++ words_sub_1) = true := by decide +kernel

def words_logic_0 : List (List Byte × Instr) :=
  [([0b10100000], .andB), ([0b10100001], .andC),
   ([0b10100010], .andD), ([0b10100011], .andE),
   ([0b10100100], .andH), ([0b10100101], .andL),
   ([0b10100110], .andAtHl), ([0b10100111], .andA),
   ([0b10101000], .xorB), ([0b10101001], .xorC),
   ([0b10101010], .xorD), ([0b10101011], .xorE),
   ([0b10101100], .xorH), ([0b10101101], .xorL),
   ([0b10101110], .xorAtHl), ([0b10101111], .xorA)]

def words_logic_1 : List (List Byte × Instr) :=
  [([0b10110000], .orB), ([0b10110001], .orC),
   ([0b10110010], .orD), ([0b10110011], .orE),
   ([0b10110100], .orH), ([0b10110101], .orL),
   ([0b10110110], .orAtHl), ([0b10110111], .orA),
   ([0b10111000], .cpB), ([0b10111001], .cpC),
   ([0b10111010], .cpD), ([0b10111011], .cpE),
   ([0b10111100], .cpH), ([0b10111101], .cpL),
   ([0b10111110], .cpAtHl), ([0b10111111], .cpA)]

def words_logic_2 : List (List Byte × Instr) :=
  [([0b11100110, 0b10100101], .andN8 0xA5), ([0b11101110, 0b10100101], .xorN8 0xA5),
   ([0b11110110, 0b10100101], .orN8 0xA5), ([0b11111110, 0b10100101], .cpN8 0xA5)]

theorem test_decode_logic : decodes (words_logic_0 ++ words_logic_1 ++ words_logic_2) = true := by decide +kernel

def words_stack_0 : List (List Byte × Instr) :=
  [([0b11000001], .popBc), ([0b11000101], .pushBc),
   ([0b11010001], .popDe), ([0b11010101], .pushDe),
   ([0b11100001], .popHl), ([0b11100101], .pushHl),
   ([0b11110001], .popAf), ([0b11110101], .pushAf)]

theorem test_decode_stack : decodes (words_stack_0) = true := by decide +kernel

def words_rotate_swap_0 : List (List Byte × Instr) :=
  [([0b11001011, 0b00010000], .rlB), ([0b11001011, 0b00010001], .rlC),
   ([0b11001011, 0b00010010], .rlD), ([0b11001011, 0b00010011], .rlE),
   ([0b11001011, 0b00010100], .rlH), ([0b11001011, 0b00010101], .rlL),
   ([0b11001011, 0b00010110], .rlAtHl), ([0b11001011, 0b00010111], .rlA),
   ([0b11001011, 0b00110000], .swapB), ([0b11001011, 0b00110001], .swapC),
   ([0b11001011, 0b00110010], .swapD), ([0b11001011, 0b00110011], .swapE),
   ([0b11001011, 0b00110100], .swapH), ([0b11001011, 0b00110101], .swapL),
   ([0b11001011, 0b00110110], .swapAtHl), ([0b11001011, 0b00110111], .swapA)]

theorem test_decode_rotate_swap : decodes (words_rotate_swap_0) = true := by decide +kernel

def words_bit_0 : List (List Byte × Instr) :=
  [([0b11001011, 0b01000000], .bit0B), ([0b11001011, 0b01000001], .bit0C),
   ([0b11001011, 0b01000010], .bit0D), ([0b11001011, 0b01000011], .bit0E),
   ([0b11001011, 0b01000100], .bit0H), ([0b11001011, 0b01000101], .bit0L),
   ([0b11001011, 0b01000110], .bit0AtHl), ([0b11001011, 0b01000111], .bit0A),
   ([0b11001011, 0b01001000], .bit1B), ([0b11001011, 0b01001001], .bit1C),
   ([0b11001011, 0b01001010], .bit1D), ([0b11001011, 0b01001011], .bit1E),
   ([0b11001011, 0b01001100], .bit1H), ([0b11001011, 0b01001101], .bit1L),
   ([0b11001011, 0b01001110], .bit1AtHl), ([0b11001011, 0b01001111], .bit1A)]

def words_bit_1 : List (List Byte × Instr) :=
  [([0b11001011, 0b01010000], .bit2B), ([0b11001011, 0b01010001], .bit2C),
   ([0b11001011, 0b01010010], .bit2D), ([0b11001011, 0b01010011], .bit2E),
   ([0b11001011, 0b01010100], .bit2H), ([0b11001011, 0b01010101], .bit2L),
   ([0b11001011, 0b01010110], .bit2AtHl), ([0b11001011, 0b01010111], .bit2A),
   ([0b11001011, 0b01011000], .bit3B), ([0b11001011, 0b01011001], .bit3C),
   ([0b11001011, 0b01011010], .bit3D), ([0b11001011, 0b01011011], .bit3E),
   ([0b11001011, 0b01011100], .bit3H), ([0b11001011, 0b01011101], .bit3L),
   ([0b11001011, 0b01011110], .bit3AtHl), ([0b11001011, 0b01011111], .bit3A)]

def words_bit_2 : List (List Byte × Instr) :=
  [([0b11001011, 0b01100000], .bit4B), ([0b11001011, 0b01100001], .bit4C),
   ([0b11001011, 0b01100010], .bit4D), ([0b11001011, 0b01100011], .bit4E),
   ([0b11001011, 0b01100100], .bit4H), ([0b11001011, 0b01100101], .bit4L),
   ([0b11001011, 0b01100110], .bit4AtHl), ([0b11001011, 0b01100111], .bit4A),
   ([0b11001011, 0b01101000], .bit5B), ([0b11001011, 0b01101001], .bit5C),
   ([0b11001011, 0b01101010], .bit5D), ([0b11001011, 0b01101011], .bit5E),
   ([0b11001011, 0b01101100], .bit5H), ([0b11001011, 0b01101101], .bit5L),
   ([0b11001011, 0b01101110], .bit5AtHl), ([0b11001011, 0b01101111], .bit5A)]

def words_bit_3 : List (List Byte × Instr) :=
  [([0b11001011, 0b01110000], .bit6B), ([0b11001011, 0b01110001], .bit6C),
   ([0b11001011, 0b01110010], .bit6D), ([0b11001011, 0b01110011], .bit6E),
   ([0b11001011, 0b01110100], .bit6H), ([0b11001011, 0b01110101], .bit6L),
   ([0b11001011, 0b01110110], .bit6AtHl), ([0b11001011, 0b01110111], .bit6A),
   ([0b11001011, 0b01111000], .bit7B), ([0b11001011, 0b01111001], .bit7C),
   ([0b11001011, 0b01111010], .bit7D), ([0b11001011, 0b01111011], .bit7E),
   ([0b11001011, 0b01111100], .bit7H), ([0b11001011, 0b01111101], .bit7L),
   ([0b11001011, 0b01111110], .bit7AtHl), ([0b11001011, 0b01111111], .bit7A)]

theorem test_decode_bit : decodes (words_bit_0 ++ words_bit_1 ++ words_bit_2 ++ words_bit_3) = true := by decide +kernel

def words_res_0 : List (List Byte × Instr) :=
  [([0b11001011, 0b10000000], .res0B), ([0b11001011, 0b10000001], .res0C),
   ([0b11001011, 0b10000010], .res0D), ([0b11001011, 0b10000011], .res0E),
   ([0b11001011, 0b10000100], .res0H), ([0b11001011, 0b10000101], .res0L),
   ([0b11001011, 0b10000110], .res0AtHl), ([0b11001011, 0b10000111], .res0A),
   ([0b11001011, 0b10001000], .res1B), ([0b11001011, 0b10001001], .res1C),
   ([0b11001011, 0b10001010], .res1D), ([0b11001011, 0b10001011], .res1E),
   ([0b11001011, 0b10001100], .res1H), ([0b11001011, 0b10001101], .res1L),
   ([0b11001011, 0b10001110], .res1AtHl), ([0b11001011, 0b10001111], .res1A)]

def words_res_1 : List (List Byte × Instr) :=
  [([0b11001011, 0b10010000], .res2B), ([0b11001011, 0b10010001], .res2C),
   ([0b11001011, 0b10010010], .res2D), ([0b11001011, 0b10010011], .res2E),
   ([0b11001011, 0b10010100], .res2H), ([0b11001011, 0b10010101], .res2L),
   ([0b11001011, 0b10010110], .res2AtHl), ([0b11001011, 0b10010111], .res2A),
   ([0b11001011, 0b10011000], .res3B), ([0b11001011, 0b10011001], .res3C),
   ([0b11001011, 0b10011010], .res3D), ([0b11001011, 0b10011011], .res3E),
   ([0b11001011, 0b10011100], .res3H), ([0b11001011, 0b10011101], .res3L),
   ([0b11001011, 0b10011110], .res3AtHl), ([0b11001011, 0b10011111], .res3A)]

def words_res_2 : List (List Byte × Instr) :=
  [([0b11001011, 0b10100000], .res4B), ([0b11001011, 0b10100001], .res4C),
   ([0b11001011, 0b10100010], .res4D), ([0b11001011, 0b10100011], .res4E),
   ([0b11001011, 0b10100100], .res4H), ([0b11001011, 0b10100101], .res4L),
   ([0b11001011, 0b10100110], .res4AtHl), ([0b11001011, 0b10100111], .res4A),
   ([0b11001011, 0b10101000], .res5B), ([0b11001011, 0b10101001], .res5C),
   ([0b11001011, 0b10101010], .res5D), ([0b11001011, 0b10101011], .res5E),
   ([0b11001011, 0b10101100], .res5H), ([0b11001011, 0b10101101], .res5L),
   ([0b11001011, 0b10101110], .res5AtHl), ([0b11001011, 0b10101111], .res5A)]

def words_res_3 : List (List Byte × Instr) :=
  [([0b11001011, 0b10110000], .res6B), ([0b11001011, 0b10110001], .res6C),
   ([0b11001011, 0b10110010], .res6D), ([0b11001011, 0b10110011], .res6E),
   ([0b11001011, 0b10110100], .res6H), ([0b11001011, 0b10110101], .res6L),
   ([0b11001011, 0b10110110], .res6AtHl), ([0b11001011, 0b10110111], .res6A),
   ([0b11001011, 0b10111000], .res7B), ([0b11001011, 0b10111001], .res7C),
   ([0b11001011, 0b10111010], .res7D), ([0b11001011, 0b10111011], .res7E),
   ([0b11001011, 0b10111100], .res7H), ([0b11001011, 0b10111101], .res7L),
   ([0b11001011, 0b10111110], .res7AtHl), ([0b11001011, 0b10111111], .res7A)]

theorem test_decode_res : decodes (words_res_0 ++ words_res_1 ++ words_res_2 ++ words_res_3) = true := by decide +kernel

/-- Illegal bytes of both spaces, and an INFERRED byte that is not admitted (R103, R104). -/
theorem test_decode_illegal :
    decodeBytes true [0b00000111] = .illegal .primary 0x07 1 ∧ decodeBytes true [0b11010011] = .illegal .primary 0xD3 1 ∧
      decodeBytes true [0b11001011, 0b00001111] = .illegal .extended 0x0F 2 ∧
      decodeBytes true [0b11001011, 0b11000000] = .illegal .extended 0xC0 2 ∧
      decodeBytes false [0b00110110, 0x5C] = .illegal .primary 0x36 1 ∧
      decodeBytes false [0b11001011, 0b00010110] = .illegal .extended 0x16 2 := by decide +kernel

/-- The instructions that the admitted bytes of both spaces select, in ascending order, operands 0. -/
def instructionsInOrder : List Instr :=
  (List.range 256).filterMap (fun n => decodeTableWord 8 n) ++
    (List.range 256).filterMap (fun n => decodeTableWord 16 (0xCB00 + n))

/-- The rows number the instructions in the order of spec/opcode_table.json, so that no two share an entry of `CYCLES`. -/
theorem test_rows_follow_the_table :
    instructionsInOrder.map (fun i => i.row.val) = List.range 362 := by decide +kernel

/-- A table that tells ADD A,B (0x80) from every other instruction of its form. -/
def slowAdd : Params :=
  { Params.standard with cycles := { CycleTable.standard with rows := CycleTable.standard.rows.set 116 (numeralCost 20) } }

/-- `CYCLES` is one cost for each instruction (R7): ADD A,B takes its own entry, ADD A,C, SUB B and AND B take theirs. -/
theorem test_costs_are_per_instruction :
    (Instr.addAB).row = 116 ∧ slowAdd.cycles.cost .addAB = numeralCost 20 ∧ slowAdd.cycles.cost .addAC = numeralCost 4 ∧
      slowAdd.cycles.cost .subB = numeralCost 4 ∧ slowAdd.cycles.cost .andB = numeralCost 4 ∧
      stepsTo { code 0x0100 [0x80] with params := slowAdd }
        { code 0x0100 [0x80] with params := slowAdd, pc := 0x0101, f := 0x80, acc := 20 } 20 0 = true := by decide +kernel

/-- The host's table words: the number 0xCBNN of an extended row, and zero operands (log 9). -/
theorem test_decode_table_word :
    decodeTableWord 16 0xCB37 = some .swapA ∧ decodeTableWord 8 0xCD = some (.callN16 0) ∧
      decodeTableWord 8 0xD3 = none := by decide +kernel

theorem test_withFetchWord_runs :
    stepsTo (State.reset.withFetchWord 16 0xCB37) { State.reset.withFetchWord 16 0xCB37 with pc := 0x0102, f := 0x80, acc := 8 }
      8 0 = true := by decide +kernel

/-! ### One step: vectors of spec/95_test_vectors.md -/

theorem test_loads_v1_to_v11 : pass
    [ -- V1 (R150): LD B,C
      ({ code 0x0100 [0x41] with c := 0x5A }, fun s => { s with b := 0x5A, pc := 0x0101, acc := 4 }, 4, 0),
      -- V3 (R153): LD C,n8
      (code 0x0100 [0x0E, 0x99], fun s => { s with c := 0x99, pc := 0x0102, acc := 8 }, 8, 0),
      -- V5 (R151): LD H,(HL): address taken before H is written
      ({ State.holds (code 0x0100 [0x66]) [(0xC010, 0x42)] with h := 0xC0, l := 0x10 }, fun s => { s with h := 0x42, pc := 0x0101, acc := 8 }, 8, 0),
      -- V7 (R152): LD (HL),H
      ({ code 0x0100 [0x74] with h := 0xC0, l := 0x05 }, fun s => { State.holds s [(0xC005, 0xC0)] with pc := 0x0101, acc := 8 }, 8, 0),
      -- V8 (R154): LD (HL),n8 into VRAM
      ({ code 0x0100 [0x36, 0x5C] with h := 0x98, l := 0x00 }, fun s => { State.holds s [(0x9800, 0x5C)] with pc := 0x0102, acc := 12 }, 12, 0),
      -- V9 (R155): LD A,(BC) from echo RAM: reads 0
      ({ code 0x0100 [0x0A] with a := 0xFF, b := 0xE0, c := 0x00 }, fun s => { s with a := 0x00, pc := 0x0101, acc := 8 }, 8, 0),
      -- V10 (R156): LD A,(DE) from ext RAM stub
      ({ code 0x0100 [0x1A] with a := 0x11, d := 0xA0, e := 0x00 }, fun s => { s with a := 0x00, pc := 0x0101, acc := 8 }, 8, 0),
      -- V11 (R157): LD (BC),A into OAM
      ({ code 0x0100 [0x02] with a := 0x3C, b := 0xFE, c := 0x00 }, fun s => { State.holds s [(0xFE00, 0x3C)] with pc := 0x0101, acc := 8 }, 8, 0) ] = true := by decide +kernel

theorem test_loads_v12_to_v20 : pass
    [ -- V12 (R158): LD (DE),A into unusable stub: dropped
      ({ code 0x0100 [0x12] with a := 0x3C, d := 0xFE, e := 0xA0 }, fun s => { s with pc := 0x0101, acc := 8 }, 8, 0),
      -- V14 (R159): LD (HL+),A wraps HL 0xFFFF to 0x0000, writes IE
      ({ code 0x0100 [0x22] with a := 0x01, h := 0xFF, l := 0xFF }, fun s => { State.holds s [(0xFFFF, 0x01)] with h := 0x00, l := 0x00, pc := 0x0101, acc := 8 }, 8, 0),
      -- V15 (R160): LD (HL-),A
      ({ code 0x0100 [0x32] with a := 0x07, h := 0xC1, l := 0x00 }, fun s => { State.holds s [(0xC100, 0x07)] with h := 0xC0, l := 0xFF, pc := 0x0101, acc := 8 }, 8, 0),
      -- V16 (R161): LD A,(HL+)
      ({ State.holds (code 0x0100 [0x2A]) [(0xC000, 0x9E)] with h := 0xC0, l := 0x00 }, fun s => { s with a := 0x9E, l := 0x01, pc := 0x0101, acc := 8 }, 8, 0),
      -- V17 (R162): LD A,(HL-) wraps 0x0000 to 0xFFFF; reads ROM[0]
      ({ State.holds (code 0x0100 [0x3A]) [(0x0000, 0x31)] with h := 0x00, l := 0x00 }, fun s => { s with a := 0x31, h := 0xFF, l := 0xFF, pc := 0x0101, acc := 8 }, 8, 0),
      -- V18 (R163): LDH (0x44),A: LY write dropped
      ({ code 0x0100 [0xE0, 0x44] with a := 0x99, ly := 77 }, fun s => { s with pc := 0x0102, acc := 12 }, 12, 0),
      -- V19 (R164): LDH A,(0x44) reads live LY
      ({ code 0x0100 [0xF0, 0x44] with ly := 77 }, fun s => { s with a := 0x4D, pc := 0x0102, acc := 12 }, 12, 0),
      -- V20 (R163): LDH (0x80),A into HRAM
      ({ code 0x0100 [0xE0, 0x80] with a := 0x5A }, fun s => { State.holds s [(0xFF80, 0x5A)] with pc := 0x0102, acc := 12 }, 12, 0) ] = true := by decide +kernel

theorem test_loads_v21_to_v26 : pass
    [ -- V21 (R165): LD (C),A into IE
      ({ code 0x0100 [0xE2] with a := 0x01, c := 0xFF }, fun s => { State.holds s [(0xFFFF, 0x01)] with pc := 0x0101, acc := 8 }, 8, 0),
      -- V22 (R166): LD A,(C) from IF
      ({ State.holds (code 0x0100 [0xF2]) [(0xFF0F, 0xE1)] with c := 0x0F }, fun s => { s with a := 0xE1, pc := 0x0101, acc := 8 }, 8, 0),
      -- V23 (R167): LD (0xD234),A: little-endian operand
      ({ code 0x0100 [0xEA, 0x34, 0xD2] with a := 0x77 }, fun s => { State.holds s [(0xD234, 0x77)] with pc := 0x0103, acc := 16 }, 16, 0),
      -- V24 (R168): LD A,(0xFF40) reads LCDC
      (State.holds (code 0x0100 [0xFA, 0x40, 0xFF]) [(0xFF40, 0x91)], fun s => { s with a := 0x91, pc := 0x0103, acc := 16 }, 16, 0),
      -- V25 (R169): LD BC,0x1234
      (code 0x0100 [0x01, 0x34, 0x12], fun s => { s with b := 0x12, c := 0x34, pc := 0x0103, acc := 12 }, 12, 0),
      -- V26 (R169): LD SP,0xFFFE
      (code 0x0100 [0x31, 0xFE, 0xFF], fun s => { s with sp := 0xFFFE, pc := 0x0103, acc := 12 }, 12, 0) ] = true := by decide +kernel

theorem test_alu_register_v30_to_v48 : pass
    [ -- V30 (R210): ADD A,B
      ({ code 0x0100 [0x80] with a := 0x3A, b := 0xC6 }, fun s => { s with a := 0x00, f := 0xB0, pc := 0x0101, acc := 4 }, 4, 0),
      -- V33 (R213): ADC A,C, carry-in makes H
      ({ code 0x0100 [0x89] with a := 0x0E, c := 0x01, f := 0x10 }, fun s => { s with a := 0x10, f := 0x20, pc := 0x0101, acc := 4 }, 4, 0),
      -- V37 (R216): SUB B: borrow, no half-borrow
      ({ code 0x0100 [0x90] with a := 0x3E, b := 0x40 }, fun s => { s with a := 0xFE, f := 0x50, pc := 0x0101, acc := 4 }, 4, 0),
      -- V40 (R219): SBC A,B with carry-in
      ({ code 0x0100 [0x98] with a := 0x3B, b := 0x2A, f := 0x10 }, fun s => { s with a := 0x10, f := 0x40, pc := 0x0101, acc := 4 }, 4, 0),
      -- V41 (R219): SBC A,B: 0x00-0x00-1
      ({ code 0x0100 [0x98] with a := 0x00, b := 0x00, f := 0x10 }, fun s => { s with a := 0xFF, f := 0x70, pc := 0x0101, acc := 4 }, 4, 0),
      -- V44 (R222): AND B: zero
      ({ code 0x0100 [0xA0] with a := 0x5A, b := 0xA5, f := 0x10 }, fun s => { s with a := 0x00, f := 0xA0, pc := 0x0101, acc := 4 }, 4, 0),
      -- V45 (R225): XOR A: the clear idiom
      ({ code 0x0100 [0xAF] with a := 0x77, f := 0x70 }, fun s => { s with a := 0x00, f := 0x80, pc := 0x0101, acc := 4 }, 4, 0),
      -- V48 (R228): OR C
      ({ code 0x0100 [0xB1] with a := 0x5A, c := 0x0F }, fun s => { s with a := 0x5F, pc := 0x0101, acc := 4 }, 4, 0) ] = true := by decide +kernel

theorem test_alu_register_v50_to_v50 : pass
    [ -- V50 (R231): CP B: A < B
      ({ code 0x0100 [0xB8] with a := 0x3C, b := 0x40 }, fun s => { s with f := 0x50, pc := 0x0101, acc := 4 }, 4, 0) ] = true := by decide +kernel

theorem test_alu_memory_v52_to_v67 : pass
    [ -- V52 (R211): ADD A,(HL)
      ({ State.holds (code 0x0100 [0x86]) [(0xC000, 0x12)] with a := 0x3C, h := 0xC0, l := 0x00 }, fun s => { s with a := 0x4E, pc := 0x0101, acc := 8 }, 8, 0),
      -- V61 (R214): ADC A,(HL) from echo stub reads 0
      ({ code 0x0100 [0x8E] with a := 0x10, h := 0xE0, l := 0x00, f := 0x10 }, fun s => { s with a := 0x11, f := 0x00, pc := 0x0101, acc := 8 }, 8, 0),
      -- V62 (R217): SUB (HL)
      ({ State.holds (code 0x0100 [0x96]) [(0xC000, 0x20)] with a := 0x10, h := 0xC0, l := 0x00 }, fun s => { s with a := 0xF0, f := 0x50, pc := 0x0101, acc := 8 }, 8, 0),
      -- V63 (R220): SBC A,(HL)
      ({ State.holds (code 0x0100 [0x9E]) [(0xC000, 0x10)] with a := 0x20, h := 0xC0, l := 0x00, f := 0x10 }, fun s => { s with a := 0x0F, f := 0x60, pc := 0x0101, acc := 8 }, 8, 0),
      -- V64 (R223): AND (HL)
      ({ State.holds (code 0x0100 [0xA6]) [(0xC000, 0x81)] with a := 0xFF, h := 0xC0, l := 0x00 }, fun s => { s with a := 0x81, f := 0x20, pc := 0x0101, acc := 8 }, 8, 0),
      -- V65 (R226): XOR (HL)
      ({ State.holds (code 0x0100 [0xAE]) [(0xC000, 0x81)] with a := 0x81, h := 0xC0, l := 0x00 }, fun s => { s with a := 0x00, f := 0x80, pc := 0x0101, acc := 8 }, 8, 0),
      -- V67 (R232): CP (HL)
      ({ State.holds (code 0x0100 [0xBE]) [(0xC000, 0x02)] with a := 0x01, h := 0xC0, l := 0x00 }, fun s => { s with f := 0x70, pc := 0x0101, acc := 8 }, 8, 0) ] = true := by decide +kernel

theorem test_alu_immediate_v53_to_v60 : pass
    [ -- V53 (R212): ADD A,n8
      ({ code 0x0100 [0xC6, 0xFF] with a := 0x3C }, fun s => { s with a := 0x3B, f := 0x30, pc := 0x0102, acc := 8 }, 8, 0),
      -- V54 (R215): ADC A,n8
      ({ code 0x0100 [0xCE, 0x0F] with a := 0x00, f := 0x10 }, fun s => { s with a := 0x10, f := 0x20, pc := 0x0102, acc := 8 }, 8, 0),
      -- V55 (R218): SUB n8 wraps
      ({ code 0x0100 [0xD6, 0x01] with a := 0x00 }, fun s => { s with a := 0xFF, f := 0x70, pc := 0x0102, acc := 8 }, 8, 0),
      -- V56 (R221): SBC A,n8
      ({ code 0x0100 [0xDE, 0x01] with a := 0x01, f := 0x10 }, fun s => { s with a := 0xFF, f := 0x70, pc := 0x0102, acc := 8 }, 8, 0),
      -- V57 (R224): AND n8
      ({ code 0x0100 [0xE6, 0x0F] with a := 0xF0 }, fun s => { s with a := 0x00, f := 0xA0, pc := 0x0102, acc := 8 }, 8, 0),
      -- V58 (R227): XOR n8
      ({ code 0x0100 [0xEE, 0xFF] with a := 0x0F }, fun s => { s with a := 0xF0, pc := 0x0102, acc := 8 }, 8, 0),
      -- V59 (R230): OR n8
      ({ code 0x0100 [0xF6, 0x80] with a := 0x01 }, fun s => { s with a := 0x81, pc := 0x0102, acc := 8 }, 8, 0),
      -- V60 (R233): CP n8
      ({ code 0x0100 [0xFE, 0x90] with a := 0x90 }, fun s => { s with f := 0xC0, pc := 0x0102, acc := 8 }, 8, 0) ] = true := by decide +kernel

theorem test_inc_dec_v71_to_v78 : pass
    [ -- V71 (R236): INC B: 0xFF to 0x00, C kept
      ({ code 0x0100 [0x04] with b := 0xFF, f := 0x10 }, fun s => { s with f := 0xB0, b := 0x00, pc := 0x0101, acc := 4 }, 4, 0),
      -- V74 (R238): DEC B: 0x01 to 0x00
      ({ code 0x0100 [0x05] with b := 0x01, f := 0x10 }, fun s => { s with f := 0xD0, b := 0x00, pc := 0x0101, acc := 4 }, 4, 0),
      -- V76 (R237): INC (HL)
      ({ State.holds (code 0x0100 [0x34]) [(0xC000, 0xFF)] with h := 0xC0, l := 0x00 }, fun s => { State.holds s [(0xC000, 0x00)] with f := 0xA0, pc := 0x0101, acc := 12 }, 12, 0),
      -- V77 (R239): DEC (HL)
      ({ State.holds (code 0x0100 [0x35]) [(0xC000, 0x00)] with h := 0xC0, l := 0x00 }, fun s => { State.holds s [(0xC000, 0xFF)] with f := 0x60, pc := 0x0101, acc := 12 }, 12, 0),
      -- V78 (R237): INC (HL) on ROM: write dropped, flags from ROM byte+1
      ({ State.holds (code 0x0100 [0x34]) [(0x0000, 0x0F)] with h := 0x00, l := 0x00 }, fun s => { s with f := 0x20, pc := 0x0101, acc := 12 }, 12, 0) ] = true := by decide +kernel

theorem test_arith16_v81_to_v86 : pass
    [ -- V81 (R250): INC SP wraps
      ({ code 0x0100 [0x33] with sp := 0xFFFF }, fun s => { s with sp := 0x0000, pc := 0x0101, acc := 8 }, 8, 0),
      -- V82 (R251): DEC BC wraps, flags kept
      ({ code 0x0100 [0x0B] with b := 0x00, c := 0x00, f := 0xF0 }, fun s => { s with b := 0xFF, c := 0xFF, pc := 0x0101, acc := 8 }, 8, 0),
      -- V85 (R252): ADD HL,DE: 17-bit carry, Z kept
      ({ code 0x0100 [0x19] with h := 0xFF, l := 0xFF, d := 0x00, e := 0x01, f := 0x40 }, fun s => { s with f := 0x30, h := 0x00, l := 0x00, pc := 0x0101, acc := 8 }, 8, 0),
      -- V86 (R252): ADD HL,HL
      ({ code 0x0100 [0x29] with h := 0x8A, l := 0x23, f := 0x80 }, fun s => { s with f := 0xB0, h := 0x14, l := 0x46, pc := 0x0101, acc := 8 }, 8, 0) ] = true := by decide +kernel

theorem test_jumps_v91_to_v98 : pass
    [ -- V91 (R271): JR -2: jumps to itself
      (code 0x0100 [0x18, 0xFE], fun s => { s with acc := 12 }, 12, 0),
      -- V92 (R271): JR -128
      (code 0x0200 [0x18, 0x80], fun s => { s with pc := 0x0182, acc := 12 }, 12, 0),
      -- V94 (R272): JR NZ not taken
      ({ code 0x0200 [0x20, 0x10] with f := 0x80 }, fun s => { s with pc := 0x0202, acc := 8 }, 8, 0),
      -- V95 (R272): JR Z taken, backwards
      ({ code 0x0200 [0x28, 0xF0] with f := 0x80 }, fun s => { s with pc := 0x01F2, acc := 12 }, 12, 0),
      -- V96 (R273): JP 0x0150
      (code 0x0100 [0xC3, 0x50, 0x01], fun s => { s with pc := 0x0150, acc := 16 }, 16, 0),
      -- V97 (R274): JP NZ not taken
      ({ code 0x0100 [0xC2, 0x00, 0x30] with f := 0x80 }, fun s => { s with pc := 0x0103, acc := 12 }, 12, 0),
      -- V98 (R274): JP Z taken
      ({ code 0x0100 [0xCA, 0x00, 0x30] with f := 0x80 }, fun s => { s with pc := 0x3000, acc := 16 }, 16, 0) ] = true := by decide +kernel

theorem test_calls_v99_to_v104 : pass
    [ -- V99 (R275): CALL 0x0200
      ({ code 0x0150 [0xCD, 0x00, 0x02] with sp := 0xFFFE }, fun s => { State.holds s [(0xFFFC, 0x53), (0xFFFD, 0x01)] with sp := 0xFFFC, pc := 0x0200, acc := 24 }, 24, 0),
      -- V100 (R275): CALL with SP = 0x0001: high byte to ROM (dropped), low byte to IE
      ({ code 0x0150 [0xCD, 0x00, 0x02] with sp := 0x0001 }, fun s => { State.holds s [(0xFFFF, 0x53)] with sp := 0xFFFF, pc := 0x0200, acc := 24 }, 24, 0),
      -- V101 (R276): RET
      ({ State.holds (code 0x0100 [0xC9]) [(0xFFFC, 0x53), (0xFFFD, 0x01)] with sp := 0xFFFC }, fun s => { s with sp := 0xFFFE, pc := 0x0153, acc := 16 }, 16, 0),
      -- V102 (R277): RETI sets IME
      ({ State.holds (code 0x0100 [0xD9]) [(0xFFFC, 0x09), (0xFFFD, 0x01)] with sp := 0xFFFC }, fun s => { s with sp := 0xFFFE, pc := 0x0109, ime := true, acc := 16 }, 16, 0),
      -- V104 (R278): RST 0x38
      ({ code 0x0200 [0xFF] with sp := 0xD000 }, fun s => { State.holds s [(0xCFFE, 0x01), (0xCFFF, 0x02)] with sp := 0xCFFE, pc := 0x0038, acc := 16 }, 16, 0) ] = true := by decide +kernel

theorem test_stack_v111_to_v116 : pass
    [ -- V111 (R302): PUSH HL with SP = 0x0000: wraps, high byte into IE
      ({ code 0x0100 [0xE5] with h := 0xAB, l := 0xCD, sp := 0x0000 }, fun s => { State.holds s [(0xFFFE, 0xCD), (0xFFFF, 0xAB)] with sp := 0xFFFE, pc := 0x0101, acc := 16 }, 16, 0),
      -- V112 (R303): PUSH AF
      ({ code 0x0100 [0xF5] with a := 0x12, f := 0xB0, sp := 0xC100 }, fun s => { State.holds s [(0xC0FE, 0xB0), (0xC0FF, 0x12)] with sp := 0xC0FE, pc := 0x0101, acc := 16 }, 16, 0),
      -- V113 (R304): POP DE
      ({ State.holds (code 0x0100 [0xD1]) [(0xC0FE, 0x34), (0xC0FF, 0x12)] with sp := 0xC0FE }, fun s => { s with d := 0x12, e := 0x34, sp := 0xC100, pc := 0x0101, acc := 12 }, 12, 0),
      -- V114 (R305): POP AF masks F
      ({ State.holds (code 0x0100 [0xF1]) [(0xC100, 0xFF), (0xC101, 0x12)] with sp := 0xC100 }, fun s => { s with a := 0x12, f := 0xF0, sp := 0xC102, pc := 0x0101, acc := 12 }, 12, 0),
      -- V116 (R304): POP BC with SP = 0xFFFF: reads IE then ROM[0]
      ({ State.holds (code 0x0100 [0xC1]) [(0x0000, 0xAA), (0xFFFF, 0x01)] with sp := 0xFFFF }, fun s => { s with b := 0xAA, c := 0x01, sp := 0x0001, pc := 0x0101, acc := 12 }, 12, 0) ] = true := by decide +kernel

theorem test_misc_v120_to_v128 : pass
    [ -- V120 (R320): NOP
      (code 0x0100 [0x00], fun s => { s with pc := 0x0101, acc := 4 }, 4, 0),
      -- V122 (R321): HALT
      (code 0x0100 [0x76], fun s => { s with pc := 0x0101, halted := true, acc := 4 }, 4, 0),
      -- V123 (R321): HALT with IF & IE already set, IME false: wakes in the same iteration
      (State.holds (code 0x0100 [0x76]) [(0xFF0F, 0x01), (0xFFFF, 0x01)], fun s => { s with pc := 0x0101, acc := 4 }, 4, 0),
      -- V124 (R121): halted Step: no fetch
      ({ code 0x0100 [0x00] with halted := true }, fun s => { s with acc := 4 }, 4, 0),
      -- V126 (R322): DI with VBlank pending: nothing dispatched
      ({ State.holds (code 0x0100 [0xF3]) [(0xFF0F, 0x01), (0xFFFF, 0x01)] with ime := true }, fun s => { s with pc := 0x0101, ime := false, acc := 4 }, 4, 0),
      -- V128 (R323): EI with VBlank pending: dispatched at once
      ({ State.holds (code 0x0200 [0xFB]) [(0xFF0F, 0x01), (0xFFFF, 0x01)] with sp := 0xFFFE }, fun s => { State.holds s [(0xFF0F, 0x00), (0xFFFC, 0x01), (0xFFFD, 0x02)] with sp := 0xFFFC, pc := 0x0040, acc := 4 }, 4, 20) ] = true := by decide +kernel

theorem test_extended_v131_to_v142 : pass
    [ -- V131 (R341): RL C with carry-in
      ({ code 0x0100 [0xCB, 0x11] with c := 0x00, f := 0x10 }, fun s => { s with f := 0x00, c := 0x01, pc := 0x0102, acc := 8 }, 8, 0),
      -- V133 (R342): RL (HL)
      ({ State.holds (code 0x0100 [0xCB, 0x16]) [(0xC000, 0x7F)] with h := 0xC0, l := 0x00, f := 0x10 }, fun s => { State.holds s [(0xC000, 0xFF)] with f := 0x00, pc := 0x0102, acc := 16 }, 16, 0),
      -- V134 (R343): SWAP A
      ({ code 0x0100 [0xCB, 0x37] with a := 0xF1, f := 0x70 }, fun s => { s with a := 0x1F, f := 0x00, pc := 0x0102, acc := 8 }, 8, 0),
      -- V136 (R344): SWAP (HL)
      ({ State.holds (code 0x0100 [0xCB, 0x36]) [(0xC000, 0x3C)] with h := 0xC0, l := 0x00 }, fun s => { State.holds s [(0xC000, 0xC3)] with pc := 0x0102, acc := 16 }, 16, 0),
      -- V137 (R345): BIT 7,H: bit set gives Z = 0, C kept
      ({ code 0x0100 [0xCB, 0x7C] with h := 0x80, f := 0x10 }, fun s => { s with f := 0x30, pc := 0x0102, acc := 8 }, 8, 0),
      -- V139 (R346): BIT 0,(HL) on IF
      ({ State.holds (code 0x0100 [0xCB, 0x46]) [(0xFF0F, 0x01)] with h := 0xFF, l := 0x0F }, fun s => { s with f := 0x20, pc := 0x0102, acc := 12 }, 12, 0),
      -- V140 (R347): RES 0,A
      ({ code 0x0100 [0xCB, 0x87] with a := 0xFF, f := 0xF0 }, fun s => { s with a := 0xFE, pc := 0x0102, acc := 8 }, 8, 0),
      -- V142 (R348): RES 7,(HL) on LCDC: turns the LCD off
      ({ State.holds (code 0x0100 [0xCB, 0xBE]) [(0xFF40, 0x91)] with h := 0xFF, l := 0x40 }, fun s => { State.holds s [(0xFF40, 0x11)] with pc := 0x0102, acc := 16 }, 16, 0) ] = true := by decide +kernel

theorem test_decode_faults_v150_to_v158 : pass
    [ -- V150 (R125): illegal primary byte
      (code 0x0200 [0xD3], fun s => { s with pc := 0x0201, fault := some ⟨.primary, 0xD3, 0x0200⟩ }, 0, 0),
      -- V153 (R125): illegal extended byte 0x00
      (code 0x0200 [0xCB, 0x00], fun s => { s with pc := 0x0202, fault := some ⟨.extended, 0x00, 0x0200⟩ }, 0, 0),
      -- V156 (R125): INFERRED LD (HL),n8 when ADMIT_INFERRED false
      ({ code 0x0100 [0x36, 0x00] with params := { Params.standard with admitInferred := false } }, fun s => { s with pc := 0x0101, fault := some ⟨.primary, 0x36, 0x0100⟩ }, 0, 0),
      -- V158 (R400): fault with VBlank pending and boundary due: no update, no dispatch
      ({ State.holds (code 0x0100 [0xD3]) [(0xFF0F, 0x01), (0xFFFF, 0x01)] with ime := true, acc := 452 }, fun s => { s with pc := 0x0101, fault := some ⟨.primary, 0xD3, 0x0100⟩ }, 0, 0) ] = true := by decide +kernel

theorem test_interrupts_v160_to_v167 : pass
    [ -- V160 (R407): dispatch after NOP
      ({ State.holds (code 0x0150 [0x00]) [(0xFF0F, 0x01), (0xFFFF, 0x01)] with sp := 0xFFFE, ime := true }, fun s => { State.holds s [(0xFF0F, 0x00), (0xFFFC, 0x51), (0xFFFD, 0x01)] with sp := 0xFFFC, pc := 0x0040, ime := false, acc := 4 }, 4, 20),
      -- V163 (R405): halted, IME false: wake only
      ({ State.holds (code 0x0151 []) [(0xFF0F, 0x01), (0xFFFF, 0x01)] with halted := true }, fun s => { s with halted := false, acc := 4 }, 4, 0),
      -- V165 (R408): halted, only bit 2 pending: wakes, no dispatch
      ({ State.holds (code 0x0151 []) [(0xFF0F, 0x04), (0xFFFF, 0x04)] with ime := true, halted := true }, fun s => { s with halted := false, acc := 4 }, 4, 0),
      -- V167 (R407): push lands on IF (SP = 0xFF10)
      ({ State.holds (code 0x0150 [0x00]) [(0xFF0F, 0x01), (0xFFFF, 0x01)] with sp := 0xFF10, ime := true }, fun s => { State.holds s [(0xFF0E, 0x51)] with sp := 0xFF0E, pc := 0x0040, ime := false, acc := 4 }, 4, 20) ] = true := by decide +kernel

theorem test_timer_v170_to_v176 : pass
    [ -- V170 (R370): no boundary yet
      ({ code 0x0100 [0x00] with acc := 451 }, fun s => { s with pc := 0x0101, acc := 455 }, 4, 0),
      -- V172 (R372): LY 143 to 144: swap and VBlank request
      ({ code 0x0100 [0x00] with ly := 143, acc := 452 }, fun s => { State.holds s [(0xFF0F, 0x01)] with pc := 0x0101, ly := 144, acc := 0 }, 4, 0),
      -- V174 (R370): LY 153 to 0
      ({ code 0x0100 [0x00] with ly := 153, acc := 452 }, fun s => { s with pc := 0x0101, ly := 0, acc := 0 }, 4, 0),
      -- V175 (R370): 24-cycle Step across the boundary: remainder kept
      ({ code 0x0100 [0xCD, 0x00, 0x02] with sp := 0xFFFE, ly := 10, acc := 440 }, fun s => { State.holds s [(0xFFFC, 0x03), (0xFFFD, 0x01)] with sp := 0xFFFC, pc := 0x0200, ly := 11, acc := 8 }, 24, 0),
      -- V176 (R127): halted Step feeds 4 cycles
      ({ code 0x0100 [] with halted := true, ly := 5, acc := 452 }, fun s => { s with ly := 6, acc := 0 }, 4, 0) ] = true := by decide +kernel

/-! ### The PPU: E9, V180, V181 and V183 of spec/95_test_vectors.md -/

/-- The tile bytes of E9. -/
def tileE9 : List Byte :=
  [0x3C, 0x7E, 0x42, 0x42, 0x42, 0x42, 0x42, 0x42, 0x7E, 0x5E, 0x7E, 0x0A, 0x7C, 0x56, 0x38, 0x7C]

/-- A state with the tile of E9 at an address and LCDC at a value. -/
def tiled (addr : Nat) (lcdc : Byte) : State :=
  State.holds { State.reset with mem := bytesAt addr tileE9 [] } [(0xFF40, lcdc)]

/-- E9: the first and the sixth row of the grid, unsigned and signed. -/
theorem test_e9_rows :
    (List.range 8).map (tilePixel ((tiled 0x8010 0x91).getTile 0x91 0x01) 0) = [0, 2, 3, 3, 3, 3, 2, 0] ∧
      (List.range 8).map (tilePixel ((tiled 0x8800 0x81).getTile 0x81 0x80) 6) = [0, 3, 1, 3, 1, 3, 2, 0] := by
  decide +kernel

/-- E9: where an index starts, at the ends of both modes. -/
theorem test_e9_starts :
    tileStart 0x00 0x01 = 0x0010 ∧ tileStart 0x81 0x00 = 0x1000 ∧ tileStart 0x81 0x7F = 0x17F0 ∧
      tileStart 0x81 0x80 = 0x0800 ∧ tileStart 0x91 0x80 = 0x0800 ∧ tileStart 0x81 0xFF = 0x0FF0 := by decide

/-- The pixels of a row of the back buffer from a column on. -/
def pixels (s : State) (row : Fin 144) (columns : List (Fin 160)) : List Pixel :=
  columns.map fun x => (s.back.get row).get x

/-- V180: the map at 0x1C00, the signed mode, map row 2 and column 5, tile row 1. -/
theorem test_v180_render :
    pixels ((State.holds (tiled 0x8FF0 0x89) [(0x9C45, 0xFF)]).renderScanline 17) 17 [39, 40, 41, 42, 45, 46, 47, 48] =
      [0, 0, 3, 0, 0, 3, 0, 0] := by decide +kernel

/-- V181 and V183: nothing is drawn while the LCD is off, and the map at 0x1800 is not read when LCDC bit 3 is set. -/
theorem test_v181_v183_render :
    (State.holds (tiled 0x8010 0x11) [(0x9800, 0x01)]).renderScanline 0 = State.holds (tiled 0x8010 0x11) [(0x9800, 0x01)] ∧
      pixels ((State.holds (tiled 0x8010 0x99) [(0x9800, 0x01)]).renderScanline 0) 0 [0, 1, 2, 3] = [0, 0, 0, 0] := by
  refine ⟨?_, by decide +kernel⟩
  unfold State.renderScanline
  rw [if_pos (by decide +kernel)]

/-- E8: a write to 0xFF44 does not change what it reads as. -/
theorem test_e8_ly_is_read_only :
    (({ State.reset with ly := 77 } : State).memWrite 0xFF44 0x99).memRead 0xFF44 = 77 := by decide +kernel

/-! ### Witnesses: states and operands that meet the hypotheses of the statements -/

theorem witness_DecodeInvertsEncode :
    (Instr.ldAtN16A 0xFFFF).wellFormed false = true ∧ (Instr.nop).wellFormed true = true := by decide

theorem witness_DecodedInstructionReencodes :
    decode false 0x21 0xFF 0x9F = .instr (.ldHlN16 0x9FFF) 3 ∧ decode true 0xCB 0x46 0 = .instr .bit0AtHl 2 := by
  decide +kernel

theorem witness_InferredInstructionsRefused :
    (Instr.nop).inferred = true ∧ (encode .nop).getD 0 0 ≠ 0xCB ∧ (Instr.swapAtHl).inferred = true ∧
      (encode .swapAtHl).getD 0 0 = 0xCB := by decide

theorem witness_IllegalBytesAreThoseListed :
    decode true 0x07 0 0 = .illegal .primary 0x07 1 ∧ decode true 0xFD 0 0 = .illegal .primary 0xFD 1 ∧
      decode true 0xCB 0x0F 0 = .illegal .extended 0x0F 2 ∧ decode true 0xCB 0x18 0 = .illegal .extended 0x18 2 ∧
      decode true 0xCB 0x2F 0 = .illegal .extended 0x2F 2 ∧ decode true 0xCB 0x38 0 = .illegal .extended 0x38 2 ∧
      decode true 0xCB 0x3F 0 = .illegal .extended 0x3F 2 ∧ decode true 0xCB 0xC0 0 = .illegal .extended 0xC0 2 := by
  decide +kernel

theorem witness_LengthFollowsFirstByte :
    decode true 0xCD 0 0 = .instr (.callN16 0) 3 ∧ decode true 0xFE 0 0 = .instr (.cpN8 0) 2 ∧
      decode true 0xCB 0x10 0 = .instr .rlB 2 ∧ decode true 0xC9 0 0 = .instr .ret 1 := by decide +kernel

/-- The four addresses where the clauses of the read map meet. -/
theorem witness_ReadsFollowAddressMap :
    storable 0x8000 = true ∧ storable 0x9FFF = true ∧ storable 0xA000 = false ∧ storable 0xBFFF = false ∧
      storable 0xC000 = true ∧ storable 0xDFFF = true ∧ storable 0xE000 = false ∧ storable 0xFDFF = false ∧
      storable 0xFE00 = true ∧ storable 0xFE9F = true ∧ storable 0xFEA0 = false ∧ storable 0xFEFF = false ∧
      storable 0xFF00 = true ∧ storable 0xFF43 = true ∧ storable 0xFF44 = false ∧ storable 0xFF45 = true ∧
      storable 0xFFFF = true := by decide

theorem witness_StubRegionsReadZeroAndDropWrites :
    (0xA000 ≤ (0xA000 : Word).toNat ∧ (0xBFFF : Word).toNat ≤ 0xBFFF) ∧
      (0xE000 ≤ (0xE000 : Word).toNat ∧ (0xFDFF : Word).toNat ≤ 0xFDFF) := by decide

/-- The decoded instruction at the program counter of the reset state, which is running. -/
theorem witness_StepRunsDecodedInstruction :
    State.reset.fault = none ∧ State.reset.halted = false ∧
      decode State.reset.params.admitInferred (State.reset.memRead State.reset.pc) (State.reset.memRead (State.reset.pc + 1))
        (State.reset.memRead (State.reset.pc + 2)) = .instr .nop 1 := by decide +kernel

/-- An encoded instruction whose bytes cross from work RAM into the echo RAM stub. -/
theorem witness_EncodedInstructionAtPcRuns :
    let s : State := code 0xDFFE [0xC3, 0x34]
    s.fault = none ∧ s.halted = false ∧ (Instr.jpN16 0x0034).wellFormed s.params.admitInferred = true ∧
      ∀ k, k < (encode (.jpN16 0x0034)).length →
        s.memRead (s.pc + BitVec.ofNat 16 k) = (encode (.jpN16 0x0034)).getD k 0 := by
  decide +kernel

theorem witness_HaltedStepConsumesFourCycles :
    let s : State := { State.reset with halted := true }
    s.fault = none ∧ s.halted = true ∧ answers (exec .halt s) = true := by decide +kernel

theorem witness_IllegalByteRaisesDecodeFault :
    (code 0x0200 [0xD3]).fetch = .illegal .primary 0xD3 1 ∧ (code 0x0200 [0xCB, 0x00]).fetch = .illegal .extended 0x00 2 ∧
      (code 0x0200 [0xD3]).fault = none ∧ (code 0x0200 [0xD3]).halted = false := by decide +kernel

theorem witness_RunningBlockStepsAndFaultedBlockStops :
    State.reset.fault = none ∧
      ({ State.reset with fault := some ⟨.primary, 0xD3, 0x0100⟩ } : State).fault = some ⟨.primary, 0xD3, 0x0100⟩ := by
  decide

/-- An instruction that is not conditional, and the two ends of a condition. -/
theorem witness_EveryInstructionCompletes :
    (∀ cc e8, Instr.nop ≠ Instr.jrCc cc e8) ∧ (∀ cc n16, Instr.nop ≠ Instr.jpCc cc n16) :=
  ⟨fun cc _ h => (by cases cc <;> cases h), fun cc _ h => (by cases cc <;> cases h)⟩

theorem witness_DefaultCostsAreTheTable : State.reset.params.cycles = CycleTable.standard := rfl

theorem witness_CallThenReturnRestores :
    let s : State := { State.reset with sp := 0xFFFE }
    storable (s.sp - 1) = true ∧ storable (s.sp - 2) = true := by decide

theorem witness_PushPopRoundTrip :
    let s : State := { State.reset with sp := 0xE000, f := 0xB0 }
    storable (s.sp - 1) = true ∧ storable (s.sp - 2) = true ∧ s.f &&& 0x0F = 0 := by decide

/-- The five clauses of the timer at their boundary values. -/
theorem witness_ScanlineTimer :
    (451 + 4 < 456) ∧ (456 ≤ 452 + 4 ∧ (0 : Byte).toNat < 143 ∧ (142 : Byte).toNat < 143) ∧
      (456 ≤ 452 + 4 ∧ ({ State.reset with ly := 143 } : State).ly = 143) ∧
      (144 ≤ (144 : Byte).toNat ∧ (152 : Byte).toNat < 153) ∧ (153 ≤ (153 : Byte).toNat ∧ 153 ≤ (255 : Byte).toNat) := by decide

/-- The LCD off, a row below the screen, and the first and last row with the LCD on. -/
theorem witness_RenderScanlineDrawsItsRow :
    State.reset.lcdc.getLsbD 7 = false ∧ (tiled 0x8010 0x91).lcdc.getLsbD 7 = true ∧ 144 ≤ 144 ∧ 0 < 144 ∧ 143 < 144 := by
  decide +kernel

theorem witness_TilesStayInVram : 128 ≤ (0x80 : Byte).toNat ∧ 128 ≤ (0xFF : Byte).toNat := by decide

/-- A step that leaves the front buffer alone, and the step that enters VBlank. -/
theorem witness_FrontBufferChangesOnlyAtVBlank :
    (∃ t, step State.reset = .next t) ∧
      ∃ t, step ({ State.reset with ly := 143, acc := 452 } : State) = .next t :=
  ⟨exists_of_answers (by decide +kernel), exists_of_answers (by decide +kernel)⟩

/-- The reset state and a state in the middle of a frame meet the invariant. -/
theorem reset_inv : State.reset.Inv := ⟨by decide, by decide, by decide, by decide, by decide, .inl rfl⟩

theorem vblank_inv : ({ requests State.reset 0x01 0x01 with ly := 153, acc := 455, f := 0xF0, extra := 20 } : State).Inv :=
  ⟨by decide, by decide +kernel, by decide +kernel, by decide, by decide, .inr rfl⟩

theorem witness_StepKeepsInvariant :
    let s : State := { requests State.reset 0x01 0x01 with ly := 153, acc := 455, f := 0xF0, extra := 20 }
    s.Inv ∧ ∃ t, step s = .next t :=
  ⟨vblank_inv, exists_of_answers (by decide +kernel)⟩

theorem witness_FrameClockCountsStepCycles :
    let s : State := { requests State.reset 0x01 0x01 with ly := 153, acc := 455, f := 0xF0, extra := 20 }
    s.Inv ∧ ∃ t, step s = .next t ∧ t.fault = none := by
  refine ⟨vblank_inv, ?_⟩
  obtain ⟨t, ht⟩ := exists_of_answers (r := step { requests State.reset 0x01 0x01 with ly := 153, acc := 455, f := 0xF0, extra := 20 })
    (by decide +kernel)
  refine ⟨t, ht, ?_⟩
  have h : (match step { requests State.reset 0x01 0x01 with ly := 153, acc := 455, f := 0xF0, extra := 20 } with
      | .next u => decide (u.fault = none)
      | .fault _ => false
      | .refused _ => false) = true := by decide +kernel
  rw [ht] at h
  exact of_decide_eq_true h

/-- IME false with a request, and IME true with none. -/
theorem witness_NoDispatchWithoutEnable :
    (requests State.reset 0x01 0x01).ime = false ∧
      ({ State.reset with ime := true } : State).mem.read 0xFF0F &&& ({ State.reset with ime := true } : State).mem.read 0xFFFF =
        0 := by decide +kernel

theorem witness_VBlankDispatch :
    let s : State := { requests State.reset 0xE5 0xFF with ime := true, sp := 0xFF10 }
    s.ime = true ∧ (s.mem.read 0xFF0F &&& s.mem.read 0xFFFF).getLsbD 0 = true := by decide +kernel

/-- A pending bit 0, and a pending bit 2 alone. -/
theorem witness_AnyPendingBitWakes :
    (requests State.reset 0x01 0x01).mem.read 0xFF0F &&& (requests State.reset 0x01 0x01).mem.read 0xFFFF ≠ 0 ∧
      (requests State.reset 0x04 0x04).mem.read 0xFF0F &&& (requests State.reset 0x04 0x04).mem.read 0xFFFF ≠ 0 ∧
      ((requests State.reset 0x04 0x04).mem.read 0xFF0F &&& (requests State.reset 0x04 0x04).mem.read 0xFFFF).getLsbD 0 =
        false := by decide +kernel

theorem witness_EiDispatchesInItsOwnIteration :
    let s : State := { requests (code 0x0200 [0xFB]) 0x01 0x01 with sp := 0xFFFE }
    s.fault = none ∧ s.halted = false ∧ s.memRead s.pc = 0xFB ∧
      (s.mem.read 0xFF0F &&& s.mem.read 0xFFFF).getLsbD 0 = true ∧ storable (s.sp - 1) = true ∧
      storable (s.sp - 2) = true := by decide +kernel

theorem witness_HaltedWithoutEnableNeverWakes :
    let s : State := { requests State.reset 0x01 0x00 with halted := true, ime := true }
    s.fault = none ∧ s.halted = true ∧ s.mem.read 0xFFFF = 0 := by decide +kernel

/-- The reset inputs of the witnesses: RAM bytes at the two ends of the storable addresses. -/
def resetInputs : ResetValues :=
  { a := 0x01, f := 0xBF, b := 0, c := 0x13, d := 0, e := 0xD8, h := 0x01, l := 0x4D, sp := 0xFFFE, pc := 0x0100
    ram := [(0x8000, 0x12), (0xFFFF, 0x34)] }

/-- A ROM image of one byte repeated. -/
def image (size : Nat) : List Byte := List.replicate size 0x76

theorem witness_ResetMeetsInvariant : ∃ s, State.resetOf Params.standard (image 0x8000) resetInputs = some s := by
  unfold State.resetOf
  rw [if_pos (by unfold image; exact List.length_replicate)]
  exact ⟨_, rfl⟩

theorem witness_ResetSetsEveryItem :
    (image 0x8000).length = 0x8000 ∧ resetInputs.ram.wf = true ∧ (image 0x7FFF).length ≠ 0x8000 := by
  unfold image
  refine ⟨List.length_replicate, by decide, ?_⟩
  rw [List.length_replicate]
  decide

theorem witness_RomAndParametersNeverChange :
    (∃ t, step (code 0x0100 [0x77]) = .next t) ∧ (0x0000 : Word).toNat ≤ 0x7FFF ∧ (0x7FFF : Word).toNat ≤ 0x7FFF :=
  ⟨exists_of_answers (by decide +kernel), by decide, by decide⟩

end Sys2Proof.Tests
end

section
/-! The instructions complete, each at its own entry of `CYCLES` (R7, R124, R128, R129). -/

namespace Sys2Proof.Machine

/-- A condition holds when flag Z has the value it asks for (R270). -/
theorem State.cond_iff (s : State) (cc : Cond) : s.cond cc = true ↔ s.f.getLsbD 7 = decide (cc = .z) := by
  cases cc <;> simp [State.cond, State.flagZ]

/-- An operation that ends in `complete` answers a next state with that cost. -/
theorem costs_of_complete {i : Instr} {s s' : State} {c : Cost} (h : exec i s = s'.complete c) : Costs i s c.val :=
  ⟨s'.setCycles c.val, h, rfl⟩

/-- An instruction that has a cost answers a next state. -/
theorem Costs.completes {i : Instr} {s : State} {n : Nat} (h : Costs i s n) : ∃ t, exec i s = .next t := by
  obtain ⟨t, ht, -⟩ := h
  exact ⟨t, ht⟩

/-- Outside the four conditional instructions, the dispatch of every constructor reduces to a meaning whose last
operation is `complete` with the entry of the constructor's own row. -/
theorem exec_eq_complete_cost {i : Instr} (s : State) (hjr : ∀ cc e8, i ≠ Instr.jrCc cc e8)
    (hjp : ∀ cc n16, i ≠ Instr.jpCc cc n16) : ∃ s', exec i s = State.complete s' (s.cost i) := by
  cases i with
  | jrNzE8 e8 => exact absurd rfl (hjr .nz e8)
  | jrZE8 e8 => exact absurd rfl (hjr .z e8)
  | jpNzN16 n16 => exact absurd rfl (hjp .nz n16)
  | jpZN16 n16 => exact absurd rfl (hjp .z n16)
  | _ => exact ⟨_, rfl⟩

/-- An instruction that is not conditional costs the entry of its row (R128). -/
theorem costs_of_not_conditional {i : Instr} (s : State) (hjr : ∀ cc e8, i ≠ Instr.jrCc cc e8)
    (hjp : ∀ cc n16, i ≠ Instr.jpCc cc n16) : Costs i s (s.cost i).val := by
  obtain ⟨s', h⟩ := exec_eq_complete_cost s hjr hjp
  exact costs_of_complete h

/-- JR cc,e8 costs the entry of its row when taken, and its other entry when not (R129). -/
theorem costs_jrCc (cc : Cond) (e8 : Byte) (s : State) :
    Costs (Instr.jrCc cc e8) s
      (if s.f.getLsbD 7 = decide (cc = .z) then (s.cost (.jrCc cc e8)).val else (s.params.cycles.jrNotTaken cc).val) := by
  simp only [← State.cond_iff]
  split
  · next taken => exact costs_of_complete ((exec_jrCc cc e8 s).trans (if_pos taken))
  · next notTaken => exact costs_of_complete ((exec_jrCc cc e8 s).trans (if_neg notTaken))

/-- JP cc,n16 costs the entry of its row when taken, and its other entry when not (R129). -/
theorem costs_jpCc (cc : Cond) (n16 : Word) (s : State) :
    Costs (Instr.jpCc cc n16) s
      (if s.f.getLsbD 7 = decide (cc = .z) then (s.cost (.jpCc cc n16)).val else (s.params.cycles.jpNotTaken cc).val) := by
  simp only [← State.cond_iff]
  split
  · next taken => exact costs_of_complete ((exec_jpCc cc n16 s).trans (if_pos taken))
  · next notTaken => exact costs_of_complete ((exec_jpCc cc n16 s).trans (if_neg notTaken))

/-- Every instruction answers a next state: the conditional ones by their own costs, the rest by the entry of their
row. -/
theorem exec_completes (i : Instr) (s : State) : ∃ t, exec i s = .next t := by
  by_cases hjr : ∀ cc e8, i ≠ Instr.jrCc cc e8
  · by_cases hjp : ∀ cc n16, i ≠ Instr.jpCc cc n16
    · exact (costs_of_not_conditional s hjr hjp).completes
    · push Not at hjp
      obtain ⟨cc, n16, rfl⟩ := hjp
      exact (costs_jpCc cc n16 s).completes
  · push Not at hjr
    obtain ⟨cc, e8, rfl⟩ := hjr
    exact (costs_jrCc cc e8 s).completes

/-- Settles O18: completion by `exec_completes`, the bounds and the frame by `exec_ends`, and the three costs by their
lemmas. -/
theorem everyInstructionCompletes : Obligations.EveryInstructionCompletes := by
  unfold Obligations.EveryInstructionCompletes
  refine ⟨fun i s => ?_, fun s => ⟨fun i hjr hjp => ?_, fun cc e8 => ?_, fun cc n16 => ?_⟩⟩
  · obtain ⟨t, ht⟩ := exec_completes i s
    obtain ⟨hlow, hhigh⟩ := exec_cycles ht
    exact ⟨t, ht, hlow, hhigh, (exec_effect ht).rest⟩
  · exact costs_of_not_conditional s hjr hjp
  · exact costs_jrCc cc e8 s
  · exact costs_jpCc cc n16 s

end Sys2Proof.Machine
end

section
/-! The register pairs as views of the 8-bit registers (R24, R25). -/

namespace Sys2Proof.Machine

/-- A register write keeps every register outside a list that holds the one written. -/
theorem keepsRegs_setReg (s : State) {rd : Reg8} (v : Byte) {written : List Reg8} (h : rd ∈ written) :
    KeepsRegs s (s.setReg rd v) written := by
  intro r hr
  have hne : r ≠ rd := fun he => hr (he ▸ h)
  rw [State.setReg_reg, if_neg hne]

/-- A write of a pair changes no 8-bit register but its own (R24). -/
theorem keepsRegs_setPair (s : State) (p : Pair) (v : Word) : KeepsRegs s (s.setPair p v) p.regs := by
  cases p with
  | bc => exact (keepsRegs_setReg s _ (by decide)).trans (keepsRegs_setReg _ _ (by decide))
  | de => exact (keepsRegs_setReg s _ (by decide)).trans (keepsRegs_setReg _ _ (by decide))
  | hl => exact (keepsRegs_setReg s _ (by decide)).trans (keepsRegs_setReg _ _ (by decide))
  | sp => exact keepsRegs_of rfl rfl rfl rfl rfl rfl rfl

/-- A pair reads back as the word written to it. -/
@[simp] theorem setPair_pair_self (s : State) (p : Pair) (v : Word) : (s.setPair p v).pair p = v := by
  cases p <;> simp [State.setPair]

/-- Masking with 0xF0 clears the low nibble. -/
theorem mask_high_toNat (v : Byte) : (v &&& 0xF0).toNat = v.toNat / 16 * 16 := by
  have hshift : v &&& (0xF0 : Byte) = v >>> 4 <<< 4 := by
    apply BitVec.eq_of_getLsbD_eq
    intro i hi
    interval_cases i <;> simp
  have hv := v.isLt
  rw [hshift, BitVec.toNat_shiftLeft, BitVec.toNat_ushiftRight, Nat.shiftRight_eq_div_pow, Nat.shiftLeft_eq]
  omega

/-- The AF setter writes A and no other 8-bit register (R25). -/
theorem keepsRegs_setStackPair_af (s : State) (v : Word) : KeepsRegs s (s.setStackPair .af v) [.a] :=
  (keepsRegs_setReg s (rd := .a) (hiByte v) (by decide)).trans fun r _ => State.setF_reg _ _ r

/-- Settles O11: each pair is a `wordOf`, and the halves of a written word are its quotient and remainder by 256. -/
theorem pairsAreBigEndianViews : Obligations.PairsAreBigEndianViews := by
  intro s v
  refine ⟨wordOf_toNat _ _, wordOf_toNat _ _, wordOf_toNat _ _, hiByte_toNat v, loByte_toNat v, hiByte_toNat v,
    loByte_toNat v, hiByte_toNat v, loByte_toNat v, fun p => ?_, fun x => wordOf_toNat x s.c⟩
  exact ⟨keepsRegs_setPair s p v, setPair_pair_self s p v⟩

/-- Settles O12: the setter's F is the low byte with its low nibble masked, and A is the high byte. -/
theorem afSetterMasksLowNibble : Obligations.AfSetterMasksLowNibble := by
  intro s v
  have hf : (s.setStackPair .af v).f.toNat = v.toNat % 256 / 16 * 16 := by
    rw [← loByte_toNat]
    exact mask_high_toNat (loByte v)
  exact ⟨wordOf_toNat s.a s.f, hiByte_toNat v, hf, keepsRegs_setStackPair_af s v⟩

end Sys2Proof.Machine
end

section
/-! What a step can do to the state as a whole: the timer's line boundary, the iteration around an instruction, and the
facts every step keeps (R22, R31, R38–R40, R45, R61, R404). -/

namespace Sys2Proof.Machine

section
variable (s : State)

/-! ### The line boundary -/

theorem renderVisible_front : s.renderVisible.front = s.front := by
  obtain ⟨b, h⟩ := renderVisible_eq s
  rw [h]
  rfl

theorem advanceLine_ly : s.advanceLine.ly = s.ly + 1 := rfl

theorem enterVBlank_front_of_ne (h : s.ly ≠ 144) : s.enterVBlank.front = s.front := by
  rw [State.enterVBlank, if_neg h]

theorem wrapLine_front : s.wrapLine.front = s.front := by
  obtain ⟨l, h⟩ := wrapLine_eq s
  rw [h]
  rfl

theorem wrapLine_of_le (h : s.ly.toNat ≤ 153) : s.wrapLine = s := if_neg (by omega)

/-- LY never leaves 0..153 at a line boundary, whatever it was before (R38, R370). -/
theorem wrapLine_line : s.wrapLine.ly.toNat ≤ 153 := by
  unfold State.wrapLine
  split
  · exact Nat.zero_le 153
  · next h => exact Nat.le_of_not_gt h

theorem advanceLine_renderVisible_ly_of_143 (h : s.ly = 143) : s.renderVisible.advanceLine.ly = 144 := by
  rw [advanceLine_ly, renderVisible_ly, h]
  rfl

/-- The boundary after line 143 swaps the buffers and requests the interrupt, and LY does not wrap (R372). -/
theorem lineBoundary_of_143 (h : s.ly = 143) :
    s.lineBoundary = s.renderVisible.advanceLine.swapBuffers.requestVBlank := by
  have hly := advanceLine_renderVisible_ly_of_143 s h
  rw [State.lineBoundary, State.enterVBlank, if_pos hly]
  refine wrapLine_of_le _ ?_
  show s.renderVisible.advanceLine.ly.toNat ≤ 153
  rw [hly]
  decide

/-- Every other boundary leaves the front buffer alone (R381). -/
theorem lineBoundary_front_of_ne (h : s.ly ≠ 143) : s.lineBoundary.front = s.front := by
  have hly : s.renderVisible.advanceLine.ly ≠ 144 := by
    rw [advanceLine_ly, renderVisible_ly]
    bv_omega
  calc s.lineBoundary.front
      = s.renderVisible.advanceLine.enterVBlank.front := wrapLine_front _
    _ = s.renderVisible.advanceLine.front := enterVBlank_front_of_ne _ hly
    _ = s.front := renderVisible_front s

/-- A boundary changes the front buffer only where LY goes from 143 to 144, and then it is the back buffer (R381). -/
theorem lineBoundary_front :
    s.lineBoundary.front = s.front ∨
      (s.ly = 143 ∧ s.lineBoundary.ly = 144 ∧ s.lineBoundary.front = s.lineBoundary.back) := by
  by_cases h : s.ly = 143
  · refine .inr ⟨h, ?_⟩
    rw [lineBoundary_of_143 s h]
    exact ⟨advanceLine_renderVisible_ly_of_143 s h, rfl⟩
  · exact .inl (lineBoundary_front_of_ne s h)

/-! ### The timer -/

/-- The timer swaps the buffers only where LY goes from 143 to 144 (R381, R382). -/
theorem updateScanline_front (n : Nat) :
    (s.updateScanline n).front = s.front ∨
      (s.ly = 143 ∧ (s.updateScanline n).ly = 144 ∧ (s.updateScanline n).front = (s.updateScanline n).back) := by
  by_cases hlt : s.acc + n < 456
  · rw [updateScanline_of_lt s n hlt]
    exact .inl rfl
  · rw [updateScanline_of_ge s n (by omega)]
    simpa only [State.setAcc_ly, State.setAcc_front] using lineBoundary_front (s.setAcc (s.acc + n - 456))

/-- The timer keeps LY in 0..153 (R38). -/
theorem updateScanline_line (n : Nat) (h : s.ly.toNat ≤ 153) : (s.updateScanline n).ly.toNat ≤ 153 := by
  by_cases hlt : s.acc + n < 456
  · rw [updateScanline_of_lt s n hlt]
    exact h
  · rw [updateScanline_of_ge s n (by omega)]
    exact wrapLine_line _

/-- One subtraction is enough: the timer keeps acc in 0..455 when a Step returns at most a line (R39, R370). -/
theorem updateScanline_acc_lt (n : Nat) (h : s.acc < 456) (hn : n ≤ 456) : (s.updateScanline n).acc < 456 := by
  by_cases hlt : s.acc + n < 456
  · rw [updateScanline_of_lt s n hlt]
    exact hlt
  · rw [updateScanline_of_ge s n (by omega), lineBoundary_acc, State.setAcc_acc]
    omega

/-! ### The rest of an iteration -/

@[simp] theorem finishIteration_f : s.finishIteration.f = s.f := by simp [State.finishIteration]

@[simp] theorem finishIteration_params : s.finishIteration.params = s.params := by simp [State.finishIteration]

theorem finishIteration_memory : CpuWrites s.mem s.finishIteration.mem :=
  (updateScanline_memory s s.cycles).trans (handleInterrupts_memory _)

theorem finishIteration_front :
    s.finishIteration.front = s.front ∨
      (s.ly = 143 ∧ s.finishIteration.ly = 144 ∧ s.finishIteration.front = s.finishIteration.back) := by
  simpa [State.finishIteration] using updateScanline_front s s.cycles

theorem finishIteration_line (h : s.ly.toNat ≤ 153) : s.finishIteration.ly.toNat ≤ 153 := by
  simpa [State.finishIteration] using updateScanline_line s s.cycles h

theorem finishIteration_acc_lt (h : s.acc < 456) (hc : s.cycles ≤ 456) : s.finishIteration.acc < 456 := by
  simpa [State.finishIteration] using updateScanline_acc_lt s s.cycles h hc

end

/-! ### The step -/

theorem Effect.haltedStep (s : State) : Effect s s.haltedStep :=
  ⟨⟨rfl, rfl, rfl, rfl, rfl, rfl, rfl⟩, .inl rfl, .refl _, id⟩

/-- The advance of PC before an instruction is part of its effect. -/
theorem Effect.of_advancePc {s u : State} {n : Nat} (h : Effect (s.advancePc n) u) : Effect s u :=
  ⟨⟨h.rest.fault, h.rest.ly, h.rest.acc, h.rest.back, h.rest.front, h.rest.params, h.rest.extra⟩, h.flags, h.memory,
    h.halted⟩

/-- What a step can do: it raises the decode fault, or it has the effect of an instruction, which the halted Step has
too, and the rest of the iteration follows (R121–R126). -/
theorem step_effect {s t : State} (h : step s = .next t) :
    (∃ space op n, t = s.raiseIllegal space op n) ∨ ∃ u, Effect s u ∧ u.cycles ≤ 24 ∧ t = u.finishIteration := by
  obtain ⟨-, ⟨-, ht⟩ | ⟨-, space, op, n, -, ht⟩ | ⟨-, i, n, u, -, hu, ht⟩⟩ := step_cases h
  · exact .inr ⟨s.haltedStep, Effect.haltedStep s, (by decide : haltedCycles ≤ 24), ht⟩
  · exact .inl ⟨space, op, n, ht⟩
  · exact .inr ⟨u, (exec_effect hu).of_advancePc, (exec_cycles hu).2, ht⟩

/-- No step changes the parameters (R45). -/
theorem step_params {s t : State} (h : step s = .next t) : t.params = s.params := by
  obtain ⟨space, op, n, rfl⟩ | ⟨u, hu, -, rfl⟩ := step_effect h
  · rfl
  · rw [finishIteration_params, hu.rest.params]

/-- A step changes memory by writes to storable addresses only (R62). -/
theorem step_memory {s t : State} (h : step s = .next t) : CpuWrites s.mem t.mem := by
  obtain ⟨space, op, n, rfl⟩ | ⟨u, hu, -, rfl⟩ := step_effect h
  · exact .refl _
  · exact hu.memory.trans (finishIteration_memory u)

/-- The rest of an iteration restores the invariant after the effect of an instruction. -/
theorem Effect.finishIteration_inv {s u : State} (hu : Effect s u) (hc : u.cycles ≤ 24) (hs : s.Inv) :
    u.finishIteration.Inv where
  flags := by
    rw [finishIteration_f]
    exact hu.flags.elim (fun kept => kept ▸ hs.flags) id
  memory := (hu.memory.trans (finishIteration_memory u)).wf hs.memory
  stored := (hu.memory.trans (finishIteration_memory u)).stored hs.stored
  line := finishIteration_line u (hu.rest.ly ▸ hs.line)
  acc := finishIteration_acc_lt u (hu.rest.acc ▸ hs.acc) (by omega)
  extra := handleInterrupts_extra _

/-- The decode fault changes nothing the invariant speaks of (R400). -/
theorem raiseIllegal_inv {s : State} (hs : s.Inv) (space : Space) (op : Byte) (n : Nat) :
    (s.raiseIllegal space op n).Inv :=
  ⟨hs.flags, hs.memory, hs.stored, hs.line, hs.acc, hs.extra⟩

/-- Settles O57: the decode fault keeps the invariant, and so does an instruction's effect with the rest of its
iteration. -/
theorem stepKeepsInvariant : Obligations.StepKeepsInvariant := by
  intro s t hs h
  obtain ⟨space, op, n, rfl⟩ | ⟨u, hu, hc, rfl⟩ := step_effect h
  · exact raiseIllegal_inv hs space op n
  · exact hu.finishIteration_inv hc hs

/-- Settles O50: only the timer touches the front buffer, at the boundary after line 143. -/
theorem frontBufferChangesOnlyAtVBlank : Obligations.FrontBufferChangesOnlyAtVBlank := by
  intro s t h
  obtain ⟨space, op, n, rfl⟩ | ⟨u, hu, -, rfl⟩ := step_effect h
  · exact .inl rfl
  · rw [← hu.rest.front, ← hu.rest.ly]
    exact finishIteration_front u

/-- An address up to 0x7FFF is in ROM (R61). -/
theorem regionOf_rom {addr : Word} (h : addr.toNat ≤ 0x7FFF) : regionOf addr = .rom := if_pos h

/-- A ROM byte reads as memory holds it (R61). -/
theorem memRead_rom (s : State) {addr : Word} (h : addr.toNat ≤ 0x7FFF) : s.memRead addr = s.mem.read addr.toNat :=
  memRead_of_stored s (by rw [regionOf_rom h]; rfl)

/-- Settles O60: a step's memory comes from writes of the CPU, which never store to ROM. -/
theorem romAndParametersNeverChange : Obligations.RomAndParametersNeverChange := by
  intro s t h
  refine ⟨step_params h, fun addr haddr => ?_⟩
  have notWritable : (regionOf addr).writable = false := by rw [regionOf_rom haddr]; rfl
  rw [memRead_rom t haddr, memRead_rom s haddr]
  exact (step_memory h).read notWritable

end Sys2Proof.Machine
end

section
/-! Memory as the CPU sees it: where a read goes, what a write does, and the instruction a step finds at PC (R61–R73, R79,
R122–R126). -/

namespace Sys2Proof

open Sys2Proof.Laws.Encoding (marked Statement of_check)

/-! ### Decoding what was encoded -/

/-- `decodeBytes` on a list with more bytes behind it, by the shape of the list: the lookup finds its first byte in the
list itself, where `decodeBytes` indexes the appended one. -/
def decodeBefore (admitted : Bool) (rest : List Byte) : List Byte → Decoded
  | [] => decodeBytes admitted rest
  | [b0] => decode admitted b0 (rest.getD 0 0) (rest.getD 1 0)
  | [b0, b1] => decode admitted b0 b1 (rest.getD 0 0)
  | b0 :: b1 :: b2 :: _ => decode admitted b0 b1 b2

theorem decodeBytes_append (admitted : Bool) (bytes rest : List Byte) :
    decodeBytes admitted (bytes ++ rest) = decodeBefore admitted rest bytes := by
  match bytes with
  | [] | [_] | [_, _] | _ :: _ :: _ :: _ => rfl

/-- A first byte whose cell takes n16 reads it low byte first (R90, R100). -/
theorem decode_n16 {op : Byte} {i : Word → Instr} (hop : op ≠ prefixByte) (hcell : primaryCell op = .f4 i)
    (n16 : Word) : decode true op (loByte n16) (hiByte n16) = .instr (i n16) 3 := by
  simp [decode, hop, decodePrimary, hcell]

/-- With the switch on, the bytes of any instruction decode to it, whatever follows them: its cell is the one its bytes
select, and n16 is put together again from its bytes. -/
theorem decodeBytes_true_encode (i : Instr) (rest : List Byte) :
    decodeBytes true (encode i ++ rest) = .instr i (encode i).length := by
  rw [decodeBytes_append]
  cases i with
  | ldBcN16 n16 | ldDeN16 n16 | ldHlN16 n16 | ldSpN16 n16 | jpNzN16 n16 | jpN16 n16 | jpZN16 n16 | callN16 n16
  | ldAtN16A n16 | ldAAtN16 n16 => exact decode_n16 (by decide) rfl n16
  | _ => exact rfl

/-- Every instruction has the length of R90 and the marking of R104. -/
theorem encoding_statement (i : Instr) : Statement i := by
  cases i <;> exact of_check rfl

/-- No instruction is the byte 0xCB alone (R90, R106). -/
theorem encode_ne_prefix (i : Instr) : encode i ≠ [prefixByte] := by
  cases i <;> nofun

/-- The marking is that of the bytes which select the instruction, whatever follows them (R104). -/
theorem marked_append {bytes : List Byte} (rest : List Byte) (hsome : bytes ≠ []) (hprefix : bytes ≠ [prefixByte]) :
    marked [(bytes ++ rest).getD 0 0, (bytes ++ rest).getD 1 0] = marked bytes := by
  match bytes with
  | [] => exact absurd rfl hsome
  | [b0] =>
    have primary : b0 ≠ prefixByte := fun h => hprefix (h ▸ rfl)
    exact (if_neg primary).trans (if_neg primary).symm
  | _ :: _ :: _ => rfl

/-- The bytes of an admitted instruction decode to it, whatever follows them. -/
theorem decodeBytes_encode {admitted : Bool} {i : Instr} (h : i.wellFormed admitted = true) (rest : List Byte) :
    decodeBytes admitted (encode i ++ rest) = .instr i (encode i).length := by
  cases admitted with
  | true => exact decodeBytes_true_encode i rest
  | false =>
    obtain ⟨hlength, -, hmarked⟩ := encoding_statement i
    have notInferred : i.inferred = false := by simpa [Instr.wellFormed] using h
    have unmarked : marked [(encode i ++ rest).getD 0 0, (encode i ++ rest).getD 1 0] = false := by
      rw [marked_append rest (List.ne_nil_of_length_pos hlength) (encode_ne_prefix i), ← hmarked, notInferred]
    exact (decode_false_of_unmarked _ unmarked).trans (decodeBytes_true_encode i rest)

namespace Machine

/-! ### The instruction at PC -/

/-- The fetch decodes the three bytes from PC on. -/
theorem fetch_eq_decodeBytes (s : State) :
    s.fetch = decodeBytes s.params.admitInferred
      ((List.range 3).map fun k => s.memRead (s.pc + BitVec.ofNat 16 k)) := by
  simp [State.fetch, decodeBytes, List.range_succ]

/-- The fetch of an admitted instruction whose encoded bytes lie at PC. -/
theorem fetch_of_encode {s : State} {i : Instr} (hadmitted : i.wellFormed s.params.admitInferred = true)
    (hbytes : ∀ k, k < (encode i).length → s.memRead (s.pc + BitVec.ofNat 16 k) = (encode i).getD k 0) :
    s.fetch = .instr i (encode i).length := by
  obtain ⟨-, hlength, -⟩ := encoding_statement i
  have hprefix : encode i <+: (List.range 3).map fun k => s.memRead (s.pc + BitVec.ofNat 16 k) :=
    List.prefix_iff_getElem.2 ⟨by simpa using hlength, fun k hk => by simp [hbytes k hk, hk]⟩
  obtain ⟨rest, hrest⟩ := hprefix
  rw [fetch_eq_decodeBytes, ← hrest, decodeBytes_encode hadmitted]

/-- A running step runs the instruction it fetched: PC passes it, it completes, and the rest of the iteration follows
(R122–R126). -/
theorem step_of_fetch {s : State} {i : Instr} {n : Nat} (hfault : s.fault = none) (hawake : s.halted = false)
    (hfetch : s.fetch = .instr i n) :
    ∃ t, exec i (s.advancePc n) = .next t ∧ step s = .next t.finishIteration := by
  obtain ⟨t, ht⟩ := exec_completes i (s.advancePc n)
  refine ⟨t, ht, ?_⟩
  simp [step, hfault, hawake, hfetch, ht]

/-- Settles O14: the encoded bytes are what the fetch decodes, and a step runs what it fetched. -/
theorem encodedInstructionAtPcRuns : Obligations.EncodedInstructionAtPcRuns := by
  intro s i hfault hawake hadmitted hbytes
  exact step_of_fetch hfault hawake (fetch_of_encode hadmitted hbytes)

/-! ### The address map -/

/-- Where a read goes, by its region: LY, memory, or the 0 of a stub. -/
theorem memRead_eq (s : State) (addr : Word) :
    s.memRead addr =
      if regionOf addr = .ly then s.ly else if (regionOf addr).stored = true then s.mem.read addr.toNat else 0 := by
  unfold State.memRead
  cases regionOf addr <;> rfl

theorem regionOf_eq_ly_iff (addr : Word) : regionOf addr = .ly ↔ addr = 0xFF44 := by
  rw [← BitVec.toNat_inj]
  simp only [regionOf, ite_eq_iff, reduceCtorEq, and_false, and_true, or_false, false_or, BitVec.reduceToNat]
  omega

theorem regionOf_eq_rom_iff (addr : Word) : regionOf addr = .rom ↔ addr.toNat ≤ 0x7FFF := by
  simp [regionOf, ite_eq_iff]

/-- ROM is the one stored region that no write of the CPU stores to (R61, R62). -/
theorem Region.stored_iff (r : Region) : r.stored = true ↔ r = .rom ∨ r.writable = true := by
  cases r <;> decide

/-- Settles O8: the read map by regions, with the ranges of R61 and R62 for the regions. -/
theorem readsFollowAddressMap : Obligations.ReadsFollowAddressMap := by
  intro s addr
  simp only [memRead_eq, regionOf_eq_ly_iff, Region.stored_iff, regionOf_eq_rom_iff, storable_eq]

/-- Settles O9: the byte by `memRead_memWrite`, and everything outside memory is kept. -/
theorem writesFollowAddressMap : Obligations.WritesFollowAddressMap := by
  intro s addr v
  have stores : StoresByte s (s.memWrite addr v) addr v := fun a => by rw [memRead_memWrite, storable_eq]
  exact ⟨stores, fun r _ => memWrite_reg s addr v r, rfl, ⟨rfl, rfl, rfl, rfl, rfl, rfl, rfl, rfl, rfl, rfl, rfl⟩, rfl⟩

/-- A write of the CPU to an address that stores nothing is discarded (R62). -/
theorem memWrite_of_not_storable (s : State) {addr : Word} (v : Byte) (h : storable addr = false) :
    s.memWrite addr v = s := by
  have notWritable : ¬ (regionOf addr).writable = true := by simp [← storable_eq, h]
  rw [State.memWrite, if_neg notWritable, State.setMem_self]

section
variable {addr : Word}
  (h : (0xA000 ≤ addr.toNat ∧ addr.toNat ≤ 0xBFFF) ∨ (0xE000 ≤ addr.toNat ∧ addr.toNat ≤ 0xFDFF))
include h

/-- External RAM and echo RAM are not among the ranges a write stores to (R62). -/
theorem not_storable_of_stub : storable addr = false := by
  simp only [storable, Bool.or_eq_false_iff, Bool.and_eq_false_iff, decide_eq_false_iff_not]
  omega

/-- External RAM and echo RAM read 0 in every state (R65, R67). -/
theorem memRead_of_stub (s : State) : s.memRead addr = 0 := by
  have notLy : addr ≠ 0xFF44 := by
    rintro rfl
    simp at h
  have notStored : ¬ (addr.toNat ≤ 0x7FFF ∨ storable addr = true) := by
    simp only [not_storable_of_stub h, Bool.false_eq_true, or_false]
    omega
  rw [readsFollowAddressMap s addr, if_neg notLy, if_neg notStored]

end

/-- Settles O10: a stub reads 0 in every state, the state after any write among them, and stores nothing. -/
theorem stubRegionsReadZeroAndDropWrites : Obligations.StubRegionsReadZeroAndDropWrites := by
  intro s addr v h
  exact ⟨memRead_of_stub h s, memWrite_of_not_storable s v (not_storable_of_stub h),
    fun other w => memRead_of_stub h (s.memWrite other w)⟩

end Machine

end Sys2Proof
end

section
/-! The encoder and the decoder are inverse to each other, the illegal bytes are those of R103 and R104, and the first
byte gives the length (R90–R106, R110). -/

namespace Sys2Proof

open Sys2Proof.Laws.Encoding (marked)

/-! ### The two maps hold each instruction at its own byte -/

/-- A byte is a row and a column of a map (R102, R105). -/
theorem exists_row_column (op : Byte) : ∃ row column : Fin 16, op = BitVec.ofNat 8 (16 * row + column) := by
  have hop := op.isLt
  exact ⟨⟨op.toNat / 16, by omega⟩, ⟨op.toNat % 16, by omega⟩, BitVec.eq_of_toNat_eq (by simp [Nat.div_add_mod])⟩

/-- The encoding of the instruction a cell holds, its immediate given. -/
def Cell.encoding (v : Byte) (w : Word) : Cell → List Byte
  | .illegal => []
  | .f1 i => encode i
  | .f2 i | .f3 i => encode (i v)
  | .f4 i => encode (i w)

/-- What a first byte and an immediate make up in a cell's format, n16 low byte first (R90, R100). -/
def Cell.bytes (op v : Byte) (w : Word) : Cell → List Byte
  | .illegal => []
  | .f1 _ => [op]
  | .f2 _ | .f3 _ => [op, v]
  | .f4 _ => [op, loByte w, hiByte w]

/-- Each of the 256 cells of the primary map holds the instruction that is encoded with the cell's own first byte, in
the cell's own format (R102). -/
theorem primaryCell_encoding (op v : Byte) (w : Word) :
    (primaryCell op).encoding v w = (primaryCell op).bytes op v w := by
  obtain ⟨row, column, rfl⟩ := exists_row_column op
  fin_cases row <;> fin_cases column <;> rfl

/-- Each instruction of the extended map is encoded as 0xCB and its own second byte (R105). -/
theorem extendedCell_encoding (xop : Byte) :
    (extendedCell xop).map encode = (extendedCell xop).map fun _ => [prefixByte, xop] := by
  obtain ⟨row, column, rfl⟩ := exists_row_column xop
  fin_cases row <;> fin_cases column <;> rfl

/-! ### What was decoded encodes to the bytes used -/

theorem encode_of_decodePrimary {op b1 b2 : Byte} {i : Instr} {n : Nat}
    (h : decodePrimary true op b1 b2 = .instr i n) : encode i = [op, b1, b2].take n := by
  have hcell := primaryCell_encoding op b1 (wordOf b2 b1)
  simp only [decodePrimary, Bool.true_or, if_true] at h
  generalize primaryCell op = cell at h hcell
  cases cell with
  | illegal => nomatch h
  | f1 _ | f2 _ | f3 _ =>
    cases h
    exact hcell
  | f4 _ =>
    cases h
    simpa [Cell.encoding, Cell.bytes] using hcell

theorem encode_of_decodeExtended {xop : Byte} {i : Instr} {n : Nat} (h : decodeExtended true xop = .instr i n) :
    n = 2 ∧ encode i = [prefixByte, xop] := by
  have hcell := extendedCell_encoding xop
  simp only [decodeExtended, Bool.true_or, if_true] at h
  split at h
  · nomatch h
  · next hxop =>
    cases h
    exact ⟨rfl, by simpa [hxop] using hcell⟩

/-- What decodes with the switch off is not marked, and decodes to the same with it on (R104). -/
theorem decode_false_eq_instr {b0 b1 b2 : Byte} {i : Instr} {n : Nat} (h : decode false b0 b1 b2 = .instr i n) :
    marked [b0, b1] = false ∧ decode true b0 b1 b2 = .instr i n := by
  cases hmarked : marked [b0, b1] with
  | false => exact ⟨rfl, decode_false_of_unmarked b2 hmarked ▸ h⟩
  | true =>
    rw [decode_false_of_marked b2 hmarked] at h
    split at h <;> nomatch h

theorem decode_true_of_decode {admitted : Bool} {b0 b1 b2 : Byte} {i : Instr} {n : Nat}
    (h : decode admitted b0 b1 b2 = .instr i n) : decode true b0 b1 b2 = .instr i n := by
  cases admitted with
  | true => exact h
  | false => exact (decode_false_eq_instr h).2

/-- An instruction is encoded as the bytes it was decoded from (R102, R105, R110). -/
theorem encode_of_decode {admitted : Bool} {b0 b1 b2 : Byte} {i : Instr} {n : Nat}
    (h : decode admitted b0 b1 b2 = .instr i n) : encode i = [b0, b1, b2].take n := by
  have htrue := decode_true_of_decode h
  unfold decode at htrue
  split at htrue
  · next hescape =>
    obtain ⟨rfl, hi⟩ := encode_of_decodeExtended htrue
    rw [hi, hescape]
    rfl
  · exact encode_of_decodePrimary htrue

/-- The bytes decoded begin with the encoding of what they decode to. -/
theorem encode_prefix_of_decode {admitted : Bool} {b0 b1 b2 : Byte} {i : Instr} {n : Nat}
    (h : decode admitted b0 b1 b2 = .instr i n) : encode i <+: [b0, b1, b2] :=
  encode_of_decode h ▸ List.take_prefix n _

/-- An instruction is marked as the bytes it was decoded from (R104). -/
theorem inferred_eq_marked {b0 b1 b2 : Byte} {i : Instr} (h : encode i <+: [b0, b1, b2]) :
    i.inferred = marked [b0, b1] := by
  obtain ⟨hlength, -, hmarked⟩ := encoding_statement i
  obtain ⟨rest, hrest⟩ := h
  have happend := marked_append rest (List.ne_nil_of_length_pos hlength) (encode_ne_prefix i)
  rw [hrest] at happend
  exact hmarked.trans happend.symm

/-- Settles O1: with the switch off the bytes of an admitted instruction are not marked, so they decode as with it
on. -/
theorem decodeInvertsEncode : Obligations.DecodeInvertsEncode := by
  intro admitted i rest h
  exact decodeBytes_encode h rest

/-- Settles O2: each cell of the two maps holds the instruction encoded with the cell's own byte, and the marked bytes
do not decode with the switch off. -/
theorem decodedInstructionReencodes : Obligations.DecodedInstructionReencodes := by
  intro admitted b0 b1 b2 i n h
  refine ⟨?_, encode_of_decode h⟩
  cases admitted with
  | true => rfl
  | false =>
    obtain ⟨unmarked, -⟩ := decode_false_eq_instr h
    simp [Instr.wellFormed, inferred_eq_marked (encode_prefix_of_decode h), unmarked]

/-! ### Illegal bytes -/

/-- With the switch off, bytes that are marked are illegal, whatever follows them (R104). -/
theorem decodeBytes_false_of_marked {bytes : List Byte} (rest : List Byte) (hprefix : bytes ≠ [prefixByte])
    (h : marked bytes = true) :
    decodeBytes false (bytes ++ rest) =
      if bytes.getD 0 0 = prefixByte then .illegal .extended (bytes.getD 1 0) 2
      else .illegal .primary (bytes.getD 0 0) 1 := by
  match bytes with
  | [] => nomatch h
  | [b0] =>
    have primary : b0 ≠ prefixByte := fun hb0 => hprefix (hb0 ▸ rfl)
    have hmarked := (marked_append rest (List.cons_ne_nil b0 []) hprefix).trans h
    exact (decode_false_of_marked _ hmarked).trans ((if_neg primary).trans (if_neg primary).symm)
  | b0 :: b1 :: _ => exact decode_false_of_marked _ h

/-- Settles O3: an INFERRED instruction has marked bytes. -/
theorem inferredInstructionsRefused : Obligations.InferredInstructionsRefused := by
  intro i rest h
  obtain ⟨-, -, hmarked⟩ := encoding_statement i
  exact decodeBytes_false_of_marked rest (encode_ne_prefix i) (hmarked ▸ h)

/-- Whether a cell of the primary map is marked `—` (R102), the escape's cell included. -/
def Cell.isIllegal : Cell → Bool
  | .illegal => true
  | .f1 _ | .f2 _ | .f3 _ | .f4 _ => false

theorem decodePrimary_eq_illegal_iff {op b1 b2 : Byte} {space : Space} {x : Byte} {n : Nat} :
    decodePrimary true op b1 b2 = .illegal space x n ↔
      (primaryCell op).isIllegal = true ∧ space = .primary ∧ x = op ∧ n = 1 := by
  simp only [decodePrimary, Bool.true_or, if_true]
  cases primaryCell op <;> simp [Cell.isIllegal, eq_comm]

theorem decodeExtended_eq_illegal_iff {xop : Byte} {space : Space} {x : Byte} {n : Nat} :
    decodeExtended true xop = .illegal space x n ↔
      (extendedCell xop).isNone = true ∧ space = .extended ∧ x = xop ∧ n = 2 := by
  simp only [decodeExtended, Bool.true_or, if_true]
  cases extendedCell xop <;> simp [eq_comm]

/-- With the switch on, the illegal encodings are the empty cells of the two maps, each reported as the byte of its own
space (R103). -/
theorem decode_true_eq_illegal_iff {b0 b1 b2 : Byte} {space : Space} {x : Byte} {n : Nat} :
    decode true b0 b1 b2 = .illegal space x n ↔
      (b0 ≠ prefixByte ∧ (primaryCell b0).isIllegal = true ∧ space = .primary ∧ x = b0 ∧ n = 1) ∨
      (b0 = prefixByte ∧ (extendedCell b1).isNone = true ∧ space = .extended ∧ x = b1 ∧ n = 2) := by
  unfold decode
  split
  · next hescape => simp [decodeExtended_eq_illegal_iff, hescape]
  · next hescape => simp [decodePrimary_eq_illegal_iff, hescape]

/-- The empty cells of the extended map are those of the four ranges of R103. -/
theorem extendedCell_isNone_iff : ∀ xop : Byte, (extendedCell xop).isNone = true ↔
    (xop.toNat ≤ 0x0F ∨ (0x18 ≤ xop.toNat ∧ xop.toNat ≤ 0x2F) ∨ (0x38 ≤ xop.toNat ∧ xop.toNat ≤ 0x3F) ∨
      0xC0 ≤ xop.toNat) := by
  decide

/-- Settles O4: the illegal encodings are the empty cells, and the lists of R103 are compared with the two maps byte by
byte. -/
theorem illegalBytesAreThoseListed : Obligations.IllegalBytesAreThoseListed := by
  intro b0 b1 b2
  refine ⟨?_, ?_, fun space op n h => ?_⟩
  · simp only [decode_true_eq_illegal_iff, reduceCtorEq, false_and, and_false, or_false, and_true]
    revert b0
    decide
  · simp only [decode_true_eq_illegal_iff, reduceCtorEq, false_and, and_false, false_or, and_true,
      extendedCell_isNone_iff, prefixByte]
  · obtain ⟨-, -, hprimary⟩ | ⟨-, -, hextended⟩ := decode_true_eq_illegal_iff.1 h
    · exact .inl hprimary
    · exact .inr hextended

/-! ### The length -/

/-- A decoded instruction has the length of its encoding. -/
theorem length_of_decode {admitted : Bool} {b0 b1 b2 : Byte} {i : Instr} {n : Nat}
    (h : decode admitted b0 b1 b2 = .instr i n) : n = (encode i).length := by
  obtain ⟨rest, hrest⟩ := encode_prefix_of_decode h
  have hencoded : decodeBytes true [b0, b1, b2] = .instr i (encode i).length := hrest ▸ decodeBytes_true_encode i rest
  exact (Decoded.instr.inj ((decode_true_of_decode h).symm.trans hencoded)).2

/-- The first byte decoded is the first byte of the encoding. -/
theorem head_of_decode {admitted : Bool} {b0 b1 b2 : Byte} {i : Instr} {n : Nat}
    (h : decode admitted b0 b1 b2 = .instr i n) : b0 = (encode i).headD 0 := by
  obtain ⟨hlength, -, -⟩ := encoding_statement i
  obtain ⟨rest, hrest⟩ := encode_prefix_of_decode h
  cases hbytes : encode i with
  | nil => simp [hbytes] at hlength
  | cons b bs =>
    rw [hbytes] at hrest
    exact (List.cons.inj hrest).1.symm

/-- Settles O5: the length and the first byte are those of the encoding, and each instruction's encoding has the length
its first byte gives. -/
theorem lengthFollowsFirstByte : Obligations.LengthFollowsFirstByte := by
  intro admitted b0 b1 b2 i n h
  rw [length_of_decode h, head_of_decode h]
  cases i <;> exact rfl

/-! ### The bit patterns -/

/-- n16 is encoded as the bytes of R100. -/
theorem n16Bytes_eq (n16 : Word) : n16Bytes n16 = [loByte n16, hiByte n16] := by
  have hlow : BitVec.ofNat 8 n16.toNat = loByte n16 := by
    apply BitVec.eq_of_toNat_eq
    rw [loByte_toNat, BitVec.toNat_ofNat]
  have hhigh : BitVec.ofNat 8 (n16.toNat / 256) = hiByte n16 := by
    apply BitVec.eq_of_toNat_eq
    rw [← hiByte_toNat, BitVec.ofNat_toNat, BitVec.setWidth_eq]
  rw [n16Bytes, hlow, hhigh]

theorem encode_ldReg (rd rs : Reg8) : encode (Instr.ldReg rd rs) = [BitVec.ofNat 8 (0x40 + 8 * rd.code + rs.code)] := by
  cases rd <;> cases rs <;> rfl

theorem encode_ldRegMem (r : Reg8) : encode (Instr.ldRegMem r) = [BitVec.ofNat 8 (0x46 + 8 * r.code)] := by
  cases r <;> rfl

theorem encode_ldMemReg (r : Reg8) : encode (Instr.ldMemReg r) = [BitVec.ofNat 8 (0x70 + r.code)] := by
  cases r <;> rfl

theorem encode_incReg (r : Reg8) : encode (Instr.incReg r) = [BitVec.ofNat 8 (0x04 + 8 * r.code)] := by
  cases r <;> rfl

theorem encode_decReg (r : Reg8) : encode (Instr.decReg r) = [BitVec.ofNat 8 (0x05 + 8 * r.code)] := by
  cases r <;> rfl

theorem encode_ldRegN8 (r : Reg8) (n8 : Byte) :
    encode (Instr.ldRegN8 r n8) = [BitVec.ofNat 8 (0x06 + 8 * r.code), n8] := by
  cases r <;> rfl

theorem encode_ldPairN16 (p : Pair) (n16 : Word) :
    encode (Instr.ldPairN16 p n16) = BitVec.ofNat 8 (0x01 + 16 * p.code) :: n16Bytes n16 := by
  rw [n16Bytes_eq]
  cases p <;> rfl

theorem encode_incPair (p : Pair) : encode (Instr.incPair p) = [BitVec.ofNat 8 (0x03 + 16 * p.code)] := by
  cases p <;> rfl

theorem encode_decPair (p : Pair) : encode (Instr.decPair p) = [BitVec.ofNat 8 (0x0B + 16 * p.code)] := by
  cases p <;> rfl

theorem encode_addHlPair (p : Pair) : encode (Instr.addHlPair p) = [BitVec.ofNat 8 (0x09 + 16 * p.code)] := by
  cases p <;> rfl

theorem encode_aluReg (op : AluOp) (r : Reg8) :
    encode (Instr.aluReg op r) = [BitVec.ofNat 8 (0x80 + 8 * op.code + r.code)] := by
  cases op <;> cases r <;> rfl

theorem encode_aluMem (op : AluOp) : encode (Instr.aluMem op) = [BitVec.ofNat 8 (0x86 + 8 * op.code)] := by
  cases op <;> rfl

theorem encode_aluN8 (op : AluOp) (n8 : Byte) :
    encode (Instr.aluN8 op n8) = [BitVec.ofNat 8 (0xC6 + 8 * op.code), n8] := by
  cases op <;> rfl

theorem encode_jrCc (cc : Cond) (e8 : Byte) :
    encode (Instr.jrCc cc e8) = [BitVec.ofNat 8 (0x20 + 8 * cc.code), e8] := by
  cases cc <;> rfl

theorem encode_jpCc (cc : Cond) (n16 : Word) :
    encode (Instr.jpCc cc n16) = BitVec.ofNat 8 (0xC2 + 8 * cc.code) :: n16Bytes n16 := by
  rw [n16Bytes_eq]
  cases cc <;> rfl

theorem encode_rst (v : Fin 8) : encode (Instr.rst v) = [BitVec.ofNat 8 (0xC7 + 8 * v.val)] := by
  fin_cases v <;> rfl

theorem encode_push (q : StackPair) : encode (Instr.push q) = [BitVec.ofNat 8 (0xC5 + 16 * q.code)] := by
  cases q <;> rfl

theorem encode_pop (q : StackPair) : encode (Instr.pop q) = [BitVec.ofNat 8 (0xC1 + 16 * q.code)] := by
  cases q <;> rfl

theorem encode_rlReg (r : Reg8) : encode (Instr.rlReg r) = [0xCB, BitVec.ofNat 8 (0x10 + r.code)] := by
  cases r <;> rfl

theorem encode_swapReg (r : Reg8) : encode (Instr.swapReg r) = [0xCB, BitVec.ofNat 8 (0x30 + r.code)] := by
  cases r <;> rfl

theorem encode_bitReg (b : Fin 8) (r : Reg8) :
    encode (Instr.bitReg b r) = [0xCB, BitVec.ofNat 8 (0x40 + 8 * b.val + r.code)] := by
  cases r <;> fin_cases b <;> rfl

theorem encode_resReg (b : Fin 8) (r : Reg8) :
    encode (Instr.resReg b r) = [0xCB, BitVec.ofNat 8 (0x80 + 8 * b.val + r.code)] := by
  cases r <;> fin_cases b <;> rfl

theorem encode_bitMem (b : Fin 8) : encode (Instr.bitMem b) = [0xCB, BitVec.ofNat 8 (0x46 + 8 * b.val)] := by
  fin_cases b <;> rfl

theorem encode_resMem (b : Fin 8) : encode (Instr.resMem b) = [0xCB, BitVec.ofNat 8 (0x86 + 8 * b.val)] := by
  fin_cases b <;> rfl

/-- Settles O6: a pattern without a field is the encoder's own, one with a field by its lemma, and `n16Bytes_eq` orders
n16. -/
theorem encodingsFollowBitPatterns : Obligations.EncodingsFollowBitPatterns := by
  have n16Patterns (n16 : Word) :
      encode (.ldAtN16A n16) = 0xEA :: n16Bytes n16 ∧ encode (.ldAAtN16 n16) = 0xFA :: n16Bytes n16 ∧
        encode (.jpN16 n16) = 0xC3 :: n16Bytes n16 ∧ encode (.callN16 n16) = 0xCD :: n16Bytes n16 := by
    rw [n16Bytes_eq]
    exact ⟨rfl, rfl, rfl, rfl⟩
  exact ⟨⟨rfl, rfl, rfl, rfl, rfl, rfl⟩, ⟨rfl, rfl, rfl, rfl, rfl, rfl, rfl, rfl, rfl, rfl⟩, ⟨rfl, rfl⟩,
    fun v => ⟨rfl, rfl, rfl, rfl⟩, n16Patterns, encode_ldReg,
    fun r => ⟨encode_ldRegMem r, encode_ldMemReg r, encode_incReg r, encode_decReg r⟩, encode_ldRegN8, encode_ldPairN16,
    fun p => ⟨encode_incPair p, encode_decPair p, encode_addHlPair p⟩, encode_aluReg, encode_aluMem, encode_aluN8,
    encode_jrCc, encode_jpCc, encode_rst, fun q => ⟨encode_push q, encode_pop q⟩, ⟨rfl, rfl⟩,
    fun r => ⟨encode_rlReg r, encode_swapReg r⟩, fun b r => ⟨encode_bitReg b r, encode_resReg b r⟩,
    fun b => ⟨encode_bitMem b, encode_resMem b⟩⟩

/-- Settles O7: eight of the words are encodings, which decode by `decodeBytes_true_encode`; the other two are an empty
cell of the extended map and an INFERRED byte with the switch off. -/
theorem sampleWordsDecode : Obligations.SampleWordsDecode :=
  ⟨decodeBytes_true_encode .ldBC [], decodeBytes_true_encode (.ldCN8 0x13) [],
    decodeBytes_true_encode (.ldHlN16 0x9FFF) [], decodeBytes_true_encode .addAB [],
    decodeBytes_true_encode (.jpN16 0x0150) [], decodeBytes_true_encode .pushAf [], decodeBytes_true_encode .halt [],
    decodeBytes_true_encode .bit5H [], by decide, by decide⟩

end Sys2Proof
end

section
/-! Relative jumps, restarts and loads from memory: what an instruction that ends in one kind of update does to the
whole state, and the address arithmetic of the encoding fields (R97–R99). -/

namespace Sys2Proof.Machine

/-! ### The shapes of an effect, each from the one update an instruction completes with -/

theorem push16_sp_sub_two (s : State) (v : Word) : (s.push16 v).sp = s.sp - 2 := by
  rw [push16_sp]
  bv_omega

/-- A push stores its word below SP and keeps every other byte (R300). -/
theorem storesPushed_push16 (s : State) (v : Word) : StoresPushed s (s.push16 v) v := by
  intro a
  have hsp : s.sp - 1 - 1 = s.sp - 2 := push16_sp_sub_two s v
  rw [memRead_push16, storable_eq, storable_eq, hsp]

section
variable {i : Instr} {s : State} {c : Cost}

theorem loadsRegister_of_complete {rd : Reg8} {v : Byte} (h : exec i s = (s.setReg rd v).complete c) :
    LoadsRegister i s rd v := by
  refine ⟨(s.setReg rd v).setCycles c.val, h, ?_, ?_, ?_, ?_, ?_⟩
  · simp
  · exact keepsRegs_setReg s v (List.mem_singleton_self rd)
  · simp
  · exact fun a => memRead_setReg s a rd v
  · exact ⟨by simp, by simp, by simp, by simp, (exec_effect h).rest⟩

theorem setsControl_of_complete {pc : Word} {ime halted : Bool}
    (h : exec i s = (((s.setPc pc).setIme ime).setHalted halted).complete c) : SetsControl i s pc ime halted :=
  ⟨_, h, rfl, rfl, rfl, keepsRegs_of rfl rfl rfl rfl rfl rfl rfl, rfl, rfl, fun _ => rfl, (exec_effect h).rest⟩

theorem pushesAndGoes_of_complete {v pc : Word} (h : exec i s = ((s.push16 v).setPc pc).complete c) :
    PushesAndGoes i s v pc := by
  refine ⟨((s.push16 v).setPc pc).setCycles c.val, h, storesPushed_push16 s v, push16_sp_sub_two s v, rfl,
    fun r _ => ?_, push16_f s v, push16_ime s v, push16_halted s v, (exec_effect h).rest⟩
  simp

end

/-! ### The addresses of the fields -/

/-- `0xFF00 | n8` is `0xFF00 + n8` (R98). -/
theorem highPage_toNat (n8 : Byte) : (highPage n8).toNat = 0xFF00 + n8.toNat := by
  rw [highPage, zext16, BitVec.toNat_or, BitVec.toNat_setWidth_of_le (by decide)]
  exact (Nat.shiftLeft_add_eq_or_of_lt n8.isLt 0xFF).symm

/-- A relative target is the next address plus the signed offset, modulo 65536 (R99). -/
theorem relativeTarget_eq (next : Word) (e8 : Byte) :
    relativeTarget next e8 = BitVec.ofInt 16 (next.toNat + e8.toInt) := by
  rw [BitVec.ofInt_add, BitVec.ofInt_natCast, BitVec.ofNat_toNat, BitVec.setWidth_eq]
  rfl

theorem restartVector_eq (v : Fin 8) : restartVector v = BitVec.ofNat 16 (8 * v.val) := by
  rw [restartVector, Nat.mul_comm]

/-- Settles O34: the taken jump by the relative target, the jump not taken leaves PC as it is. -/
theorem relativeJumps : Obligations.RelativeJumps := by
  intro e8 s
  simp only [← relativeTarget_eq, ← State.cond_iff]
  refine ⟨setsControl_of_complete rfl, fun cc => ?_⟩
  split
  · next taken => exact setsControl_of_complete ((exec_jrCc cc e8 s).trans (if_pos taken))
  · next notTaken => exact setsControl_of_complete ((exec_jrCc cc e8 s).trans (if_neg notTaken))

/-- Settles O21: each load is a read through the decoder, written to its register. -/
theorem loadRegisterFromMemory : Obligations.LoadRegisterFromMemory :=
  ⟨highPage_toNat, fun s => ⟨fun rd => loadsRegister_of_complete (exec_ldRegMem rd s), loadsRegister_of_complete rfl,
    loadsRegister_of_complete rfl, fun _ => loadsRegister_of_complete rfl, loadsRegister_of_complete rfl,
    fun _ => loadsRegister_of_complete rfl⟩⟩

/-- Settles O36: a restart pushes the next address and goes to its vector. -/
theorem restartCallsItsVector : Obligations.RestartCallsItsVector := by
  intro v s
  rw [← restartVector_eq]
  exact pushesAndGoes_of_complete (exec_rst v s)

end Sys2Proof.Machine
end

section
/-! The default costs (R128, R129): the standard table's entry for each family of instructions. -/

namespace Sys2Proof

/-! ### The standard table by families -/

namespace CycleTable

theorem standard_ldReg (rd rs : Reg8) : (standard.cost (.ldReg rd rs)).val = 4 := by
  cases rd <;> cases rs <;> rfl

theorem standard_ldRegMem (r : Reg8) : (standard.cost (.ldRegMem r)).val = 8 := by
  cases r <;> rfl

theorem standard_ldMemReg (r : Reg8) : (standard.cost (.ldMemReg r)).val = 8 := by
  cases r <;> rfl

theorem standard_ldRegN8 (r : Reg8) (n8 : Byte) : (standard.cost (.ldRegN8 r n8)).val = 8 := by
  cases r <;> rfl

theorem standard_ldPairN16 (p : Pair) (n16 : Word) : (standard.cost (.ldPairN16 p n16)).val = 12 := by
  cases p <;> rfl

theorem standard_incReg (r : Reg8) : (standard.cost (.incReg r)).val = 4 := by
  cases r <;> rfl

theorem standard_decReg (r : Reg8) : (standard.cost (.decReg r)).val = 4 := by
  cases r <;> rfl

theorem standard_incPair (p : Pair) : (standard.cost (.incPair p)).val = 8 := by
  cases p <;> rfl

theorem standard_decPair (p : Pair) : (standard.cost (.decPair p)).val = 8 := by
  cases p <;> rfl

theorem standard_addHlPair (p : Pair) : (standard.cost (.addHlPair p)).val = 8 := by
  cases p <;> rfl

theorem standard_aluReg (op : AluOp) (r : Reg8) : (standard.cost (.aluReg op r)).val = 4 := by
  cases op <;> cases r <;> rfl

theorem standard_aluMem (op : AluOp) : (standard.cost (.aluMem op)).val = 8 := by
  cases op <;> rfl

theorem standard_aluN8 (op : AluOp) (n8 : Byte) : (standard.cost (.aluN8 op n8)).val = 8 := by
  cases op <;> rfl

theorem standard_pop (q : StackPair) : (standard.cost (.pop q)).val = 12 := by
  cases q <;> rfl

theorem standard_push (q : StackPair) : (standard.cost (.push q)).val = 16 := by
  cases q <;> rfl

theorem standard_rst (v : Fin 8) : (standard.cost (.rst v)).val = 16 := by
  fin_cases v <;> rfl

theorem standard_jrCc (cc : Cond) (e8 : Byte) : (standard.cost (.jrCc cc e8)).val = 12 := by
  cases cc <;> rfl

theorem standard_jrNotTaken (cc : Cond) : (standard.jrNotTaken cc).val = 8 := by
  cases cc <;> rfl

theorem standard_jpCc (cc : Cond) (n16 : Word) : (standard.cost (.jpCc cc n16)).val = 16 := by
  cases cc <;> rfl

theorem standard_jpNotTaken (cc : Cond) : (standard.jpNotTaken cc).val = 12 := by
  cases cc <;> rfl

theorem standard_rlReg (r : Reg8) : (standard.cost (.rlReg r)).val = 8 := by
  cases r <;> rfl

theorem standard_swapReg (r : Reg8) : (standard.cost (.swapReg r)).val = 8 := by
  cases r <;> rfl

theorem standard_bitReg (b : Fin 8) (r : Reg8) : (standard.cost (.bitReg b r)).val = 8 := by
  cases r <;> fin_cases b <;> rfl

theorem standard_bitMem (b : Fin 8) : (standard.cost (.bitMem b)).val = 12 := by
  fin_cases b <;> rfl

theorem standard_resReg (b : Fin 8) (r : Reg8) : (standard.cost (.resReg b r)).val = 8 := by
  cases r <;> fin_cases b <;> rfl

theorem standard_resMem (b : Fin 8) : (standard.cost (.resMem b)).val = 16 := by
  fin_cases b <;> rfl

end CycleTable

namespace Machine

open CycleTable

/-- Under the standard table, an instruction that completes with its own entry costs what that table holds for it. -/
theorem costs_standard {i : Instr} {s s' : State} {n : Nat} (h : s.params.cycles = standard)
    (hn : (standard.cost i).val = n) (hexec : exec i s = s'.complete (s.cost i)) : Costs i s n := by
  rw [← hn, ← h]
  exact costs_of_complete hexec

/-- Settles O19: each instruction completes with its own entry, which its family's lemma reads off the standard table; the
conditional ones by `costs_jrCc` and `costs_jpCc`. -/
theorem defaultCostsAreTheTable : Obligations.DefaultCostsAreTheTable := by
  intro s h
  refine ⟨?misc, fun rd rs => ?ldReg, fun r => ?reg, fun r n8 => ?ldRegN8, fun op r => ?aluReg, fun op => ?aluMem,
    fun op n8 => ?aluN8, ?loadsA, fun p => ?pair, fun p n16 => ?ldPairN16, fun n8 => ?n8, ?incDecMem, fun q => ?stack,
    fun n16 => ?n16, ?returns, fun v => ?rst, fun e8 => ?jr, fun cc e8 => ?jrCc, fun cc n16 => ?jpCc, fun b r => ?bitReg,
    fun b => ?bitMem, ?rotateMem⟩
  case misc =>
    exact ⟨costs_standard h rfl rfl, costs_standard h rfl rfl, costs_standard h rfl rfl, costs_standard h rfl rfl⟩
  case ldReg => exact costs_standard h (standard_ldReg rd rs) (exec_ldReg rd rs s)
  case reg =>
    exact ⟨costs_standard h (standard_incReg r) (exec_incReg r s),
      costs_standard h (standard_decReg r) (exec_decReg r s),
      costs_standard h (standard_ldRegMem r) (exec_ldRegMem r s),
      costs_standard h (standard_ldMemReg r) (exec_ldMemReg r s),
      costs_standard h (standard_rlReg r) (exec_rlReg r s),
      costs_standard h (standard_swapReg r) (exec_swapReg r s)⟩
  case ldRegN8 => exact costs_standard h (standard_ldRegN8 r n8) (exec_ldRegN8 r n8 s)
  case aluReg => exact costs_standard h (standard_aluReg op r) (exec_aluReg op r s)
  case aluMem => exact costs_standard h (standard_aluMem op) (exec_aluMem op s)
  case aluN8 => exact costs_standard h (standard_aluN8 op n8) (exec_aluN8 op n8 s)
  case loadsA =>
    exact ⟨costs_standard h rfl rfl, costs_standard h rfl rfl, costs_standard h rfl rfl, costs_standard h rfl rfl,
      costs_standard h rfl rfl, costs_standard h rfl rfl, costs_standard h rfl rfl, costs_standard h rfl rfl,
      costs_standard h rfl rfl, costs_standard h rfl rfl⟩
  case pair =>
    exact ⟨costs_standard h (standard_incPair p) (exec_incPair p s),
      costs_standard h (standard_decPair p) (exec_decPair p s),
      costs_standard h (standard_addHlPair p) (exec_addHlPair p s)⟩
  case ldPairN16 => exact costs_standard h (standard_ldPairN16 p n16) (exec_ldPairN16 p n16 s)
  case n8 => exact ⟨costs_standard h rfl rfl, costs_standard h rfl rfl, costs_standard h rfl rfl⟩
  case incDecMem => exact ⟨costs_standard h rfl rfl, costs_standard h rfl rfl⟩
  case stack =>
    exact ⟨costs_standard h (standard_pop q) (exec_pop q s), costs_standard h (standard_push q) (exec_push q s)⟩
  case n16 =>
    exact ⟨costs_standard h rfl rfl, costs_standard h rfl rfl, costs_standard h rfl rfl, costs_standard h rfl rfl⟩
  case returns => exact ⟨costs_standard h rfl rfl, costs_standard h rfl rfl⟩
  case rst => exact costs_standard h (standard_rst v) (exec_rst v s)
  case jr => exact costs_standard h rfl rfl
  case jrCc => simpa only [State.cost, h, standard_jrCc, standard_jrNotTaken] using costs_jrCc cc e8 s
  case jpCc => simpa only [State.cost, h, standard_jpCc, standard_jpNotTaken] using costs_jpCc cc n16 s
  case bitReg =>
    exact ⟨costs_standard h (standard_bitReg b r) (exec_bitReg b r s),
      costs_standard h (standard_resReg b r) (exec_resReg b r s)⟩
  case bitMem =>
    exact ⟨costs_standard h (standard_bitMem b) (exec_bitMem b s), costs_standard h (standard_resMem b) (exec_resMem b s)⟩
  case rotateMem => exact ⟨costs_standard h rfl rfl, costs_standard h rfl rfl⟩

end Machine
end Sys2Proof
end

section
/-! One iteration of the block (R120–R133): what a step answers in each of its cases, the frame clock, and a halted CPU
without an enabled interrupt. -/

namespace Sys2Proof.Machine

/-! ### The cases of a step -/

/-- A faulted block answers its record (R120, R400). -/
theorem step_of_fault {s : State} {record : IllegalInstruction} (hfault : s.fault = some record) :
    step s = .fault (.illegalInstruction record) := by
  simp [step, hfault]

/-- A halted Step fetches nothing (R121). -/
theorem step_of_halted {s : State} (hfault : s.fault = none) (hhalted : s.halted = true) :
    step s = .next s.haltedStep.finishIteration := by
  simp [step, hfault, hhalted]

/-- A step whose fetch finds no instruction raises the decode fault (R125, R400). -/
theorem step_of_illegal {s : State} {space : Space} {op : Byte} {n : Nat} (hfault : s.fault = none)
    (hawake : s.halted = false) (hfetch : s.fetch = .illegal space op n) :
    step s = .next (s.raiseIllegal space op n) := by
  simp [step, hfault, hawake, hfetch]

/-- A block without a fault record steps: halted, by a decode fault, or by the instruction it fetched. -/
theorem step_completes {s : State} (hfault : s.fault = none) : ∃ t, step s = .next t := by
  cases hhalted : s.halted with
  | true => exact ⟨_, step_of_halted hfault hhalted⟩
  | false =>
    cases hfetch : s.fetch with
    | illegal space op n => exact ⟨_, step_of_illegal hfault hhalted hfetch⟩
    | instr i n =>
      obtain ⟨t, -, ht⟩ := step_of_fetch hfault hhalted hfetch
      exact ⟨_, ht⟩

/-- Settles O17: a step completes unless a record is set, and then it answers the record. -/
theorem runningBlockStepsAndFaultedBlockStops : Obligations.RunningBlockStepsAndFaultedBlockStops :=
  ⟨fun _ => step_completes, fun _ _ => step_of_fault⟩

/-- Settles O13: the fetch is the decoding of the bytes at PC, and a step runs what it fetched. -/
theorem stepRunsDecodedInstruction : Obligations.StepRunsDecodedInstruction :=
  fun _ _ _ hfault hawake hfetch => step_of_fetch hfault hawake hfetch

/-- Settles O15: the timer keeps the halt, and so does every instruction, by its effect. -/
theorem haltedStepConsumesFourCycles : Obligations.HaltedStepConsumesFourCycles := by
  intro s hfault hhalted
  refine ⟨step_of_halted hfault hhalted, ?_, fun i u t hu h => (exec_effect h).halted hu⟩
  rw [updateScanline_halted]
  exact hhalted

/-- Settles O16: the fetch is the decoding of the bytes at PC, and an illegal one raises the decode fault. -/
theorem illegalByteRaisesDecodeFault : Obligations.IllegalByteRaisesDecodeFault :=
  fun _ _ _ _ hfault hawake hfetch => step_of_illegal hfault hawake hfetch

/-! ### The frame clock -/

/-- A boundary moves LY to the next of the 154 lines (R370). -/
theorem lineBoundary_ly (s : State) (h : s.ly.toNat ≤ 153) : s.lineBoundary.ly.toNat = (s.ly.toNat + 1) % 154 := by
  obtain ⟨m, f, henter, -⟩ := enterVBlank_eq s.renderVisible.advanceLine
  have hnext : s.renderVisible.advanceLine.enterVBlank.ly.toNat = s.ly.toNat + 1 := by
    rw [henter, State.setMem_ly, State.setFront_ly, advanceLine_ly, renderVisible_ly]
    bv_omega
  unfold State.lineBoundary State.wrapLine
  split
  · next hwrap =>
    have hzero : (s.renderVisible.advanceLine.enterVBlank.setLy 0).ly.toNat = 0 := rfl
    omega
  · next hstay =>
    rw [hnext] at hstay ⊢
    omega

/-- A boundary takes the frame clock to the same place in the next line, in line 0 after line 153 (R371). -/
theorem lineBoundary_frameClock (s : State) (h : s.ly.toNat ≤ 153) :
    s.lineBoundary.frameClock = (s.ly.toNat + 1) % 154 * 456 + s.acc := by
  rw [State.frameClock, lineBoundary_ly s h, lineBoundary_acc]

/-- The timer advances the frame clock by the cycles it is given, at most a line of them (R370, R371). -/
theorem updateScanline_frameClock (s : State) {n : Nat} (hn : n ≤ 456) (hline : s.ly.toNat ≤ 153) (hacc : s.acc < 456) :
    (s.updateScanline n).frameClock = (s.frameClock + n) % 70224 := by
  have hclock : s.frameClock = s.ly.toNat * 456 + s.acc := rfl
  by_cases hlt : s.acc + n < 456
  · have hnext : (s.setAcc (s.acc + n)).frameClock = s.ly.toNat * 456 + (s.acc + n) := rfl
    rw [updateScanline_of_lt s n hlt]
    omega
  · rw [updateScanline_of_ge s n (by omega)]
    generalize hk : s.acc + n - 456 = k
    have hnext : (s.setAcc k).lineBoundary.frameClock = (s.ly.toNat + 1) % 154 * 456 + k :=
      lineBoundary_frameClock (s.setAcc k) hline
    omega

/-- The interrupt controller leaves the frame clock alone, a dispatch included (R373). -/
@[simp] theorem handleInterrupts_frameClock (s : State) : s.handleInterrupts.frameClock = s.frameClock := by
  simp [State.frameClock]

@[simp] theorem finishIteration_cycles (s : State) : s.finishIteration.cycles = s.cycles := by
  simp [State.finishIteration]

/-- Settles O51: an instruction leaves the clock alone, and the rest of the iteration advances it by its cycles. -/
theorem frameClockCountsStepCycles : Obligations.FrameClockCountsStepCycles := by
  intro s t hs h hfault
  obtain ⟨space, op, n, rfl⟩ | ⟨u, hu, hcycles, rfl⟩ := step_effect h
  · cases hfault
  · have hclock : u.frameClock = s.frameClock := by rw [State.frameClock, hu.rest.ly, hu.rest.acc]; rfl
    rw [finishIteration_cycles, ← hclock, State.finishIteration, handleInterrupts_frameClock]
    exact updateScanline_frameClock u (by omega) (hu.rest.ly ▸ hs.line) (hu.rest.acc ▸ hs.acc)

/-! ### A halted CPU with IE = 0 -/

/-- With nothing pending the interrupt controller returns 0 and does nothing else (R405, R406). -/
theorem handleInterrupts_of_not_pending {s : State} (h : s.pending = 0) : s.handleInterrupts = s.setExtra 0 := by
  have hwake : s.wake = s := if_neg fun wakes => wakes.1 h
  rw [State.handleInterrupts, hwake]
  exact if_pos (.inr h)

/-- The timer writes no byte but IF (R372). -/
theorem updateScanline_mem_read (s : State) (n : Nat) {a : Nat} (ha : a ≠ 0xFF0F) :
    (s.updateScanline n).mem.read a = s.mem.read a := by
  rcases updateScanline_mem s n with h | h <;> rw [h]
  rw [Memory.read_write, if_neg ha]

/-- A block without a fault record, halted with PC at a given address and IE = 0. -/
structure HaltedForGood (pc : Word) (s : State) : Prop where
  fault : s.fault = none
  halted : s.halted = true
  enable : s.mem.read 0xFFFF = 0
  pc : s.pc = pc

/-- Such a block has nothing pending after its timer, so that its step wakes nothing and takes 4 cycles. -/
theorem HaltedForGood.step_keeps {pc : Word} {s : State} (hs : HaltedForGood pc s) :
    ∃ t, step s = .next t ∧ HaltedForGood pc t ∧ t.cycles = 4 := by
  have henable : (s.haltedStep.updateScanline 4).mem.read 0xFFFF = 0 :=
    (updateScanline_mem_read _ 4 (by decide)).trans hs.enable
  have hpending : (s.haltedStep.updateScanline 4).pending = 0 := by
    rw [State.pending, State.ieReg, henable]
    exact BitVec.and_zero
  have hfinish : s.haltedStep.finishIteration = (s.haltedStep.updateScanline 4).setExtra 0 :=
    handleInterrupts_of_not_pending hpending
  refine ⟨_, step_of_halted hs.fault hs.halted, ?_, finishIteration_cycles _⟩
  rw [hfinish]
  exact ⟨(updateScanline_fault _ 4).trans hs.fault, (updateScanline_halted _ 4).trans hs.halted, henable,
    (updateScanline_pc _ 4).trans hs.pc⟩

/-- A run of one more step goes on from where its first step leads. -/
theorem run_succ_of_step {s t : State} (h : step s = .next t) (k : Nat) :
    Sys2Proof.core.run (k + 1) s = Sys2Proof.core.run k t := by
  have hcore : Sys2Proof.core.step s = .next t := h
  simp only [Host.Core.run, hcore]

/-- What holds of a state and survives its step, which completes, holds after any number of steps. -/
theorem run_keeps {P : State → Prop} (hstep : ∀ s, P s → ∃ t, step s = .next t ∧ P t) (k : Nat) (s : State) (hs : P s) :
    ∃ t : State, Sys2Proof.core.run k s = .next t ∧ P t := by
  induction k generalizing s with
  | zero => exact ⟨s, rfl, hs⟩
  | succ k ih =>
    obtain ⟨u, hu, hPu⟩ := hstep s hs
    obtain ⟨t, ht, hPt⟩ := ih u hPu
    exact ⟨t, (run_succ_of_step hu k).trans ht, hPt⟩

/-- Settles O56: the first step leaves the block halted for good with 4 cycles, and every later one keeps both. -/
theorem haltedWithoutEnableNeverWakes : Obligations.HaltedWithoutEnableNeverWakes := by
  intro k s hfault hhalted henable
  have hs : HaltedForGood s.pc s := ⟨hfault, hhalted, henable, rfl⟩
  cases k with
  | zero => exact ⟨s, rfl, hhalted, hfault, henable, rfl, .inl rfl⟩
  | succ k =>
    obtain ⟨u, hu, hfirst⟩ := hs.step_keeps
    obtain ⟨t, ht, hlast, hcycles⟩ :=
      run_keeps (P := fun t => HaltedForGood s.pc t ∧ t.cycles = 4) (fun _ h => h.1.step_keeps) k u hfirst
    exact ⟨t, (run_succ_of_step hu k).trans ht, hlast.halted, hlast.fault, hlast.enable, hlast.pc, .inr hcycles⟩

end Sys2Proof.Machine
end

section
/-! The loads of registers, immediates and pairs, the stores of a byte, and the accesses through HL+ and HL− (R150,
R152–R154, R157–R163, R165, R167, R169). -/

namespace Sys2Proof.Machine

/-! ### What a write of a pair leaves alone -/

section
variable (s : State) (p : Pair) (v : Word)

@[simp] theorem setPair_f : (s.setPair p v).f = s.f := by cases p <;> rfl
@[simp] theorem setPair_pc : (s.setPair p v).pc = s.pc := by cases p <;> rfl
@[simp] theorem setPair_ime : (s.setPair p v).ime = s.ime := by cases p <;> rfl
@[simp] theorem setPair_halted : (s.setPair p v).halted = s.halted := by cases p <;> rfl

@[simp] theorem memRead_setPair (a : Word) : (s.setPair p v).memRead a = s.memRead a := by cases p <;> rfl

/-- SP changes only when it is the pair written (R26). -/
theorem setPair_sp_of_ne (h : p ≠ .sp) : (s.setPair p v).sp = s.sp := by
  cases p with
  | sp => exact absurd rfl h
  | _ => rfl

end

/-! ### The shapes of the effects, each from the one update an instruction completes with -/

section
variable {i : Instr} {s : State} {c : Cost}

theorem storesAt_of_complete {addr : Word} {v : Byte} (h : exec i s = (s.memWrite addr v).complete c) :
    StoresAt i s addr v := by
  obtain ⟨stores, keepsRegs, keepsF, keepsSystem, -⟩ := writesFollowAddressMap s addr v
  refine ⟨(s.memWrite addr v).setCycles c.val, h, stores, fun r hr => ?_, keepsF, ?_⟩
  · rw [State.setCycles_reg, keepsRegs r hr]
  · exact ⟨keepsSystem.sp, keepsSystem.pc, keepsSystem.ime, keepsSystem.halted, (exec_effect h).rest⟩

/-- A store at HL, then a write of HL: the store goes to the old HL (R159, R160). -/
theorem storesThenSetsHl_of_complete {v : Byte} {hl : Word}
    (h : exec i s = ((s.setAtHl v).setPair .hl hl).complete c) :
    ∃ t, exec i s = .next t ∧ StoresByte s t (s.pair .hl) v ∧ t.pair .hl = hl ∧ KeepsRegs s t [.h, .l] ∧ t.f = s.f ∧
      KeepsSystem s t := by
  obtain ⟨stores, keepsRegs, -⟩ := writesFollowAddressMap s (s.pair .hl) v
  refine ⟨((s.setAtHl v).setPair .hl hl).setCycles c.val, h, stores, ?_, fun r hr => ?_, rfl, ?_⟩
  · exact setPair_pair_self (s.setAtHl v) .hl hl
  · rw [State.setCycles_reg, keepsRegs_setPair (s.setAtHl v) .hl hl r hr]
    exact keepsRegs r List.not_mem_nil
  · exact ⟨rfl, rfl, rfl, rfl, (exec_effect h).rest⟩

/-- A load of A, then a write of HL (R161, R162). -/
theorem loadsAThenSetsHl_of_complete {v : Byte} {hl : Word}
    (h : exec i s = ((s.setReg .a v).setPair .hl hl).complete c) :
    ∃ t, exec i s = .next t ∧ t.a = v ∧ t.pair .hl = hl ∧ KeepsRegs s t [.a, .h, .l] ∧ t.f = s.f ∧ KeepsMemory s t ∧
      KeepsSystem s t := by
  refine ⟨((s.setReg .a v).setPair .hl hl).setCycles c.val, h, rfl, ?_, fun r hr => ?_, rfl, fun _ => rfl, ?_⟩
  · exact setPair_pair_self (s.setReg .a v) .hl hl
  · rw [State.setCycles_reg, keepsRegs_setPair (s.setReg .a v) .hl hl r fun hmem => hr (List.mem_cons_of_mem _ hmem)]
    exact keepsRegs_setReg s v List.mem_cons_self r hr
  · exact ⟨rfl, rfl, rfl, rfl, (exec_effect h).rest⟩

end

/-- Settles O23: each access takes its address before its write of HL, which is the last update. -/
theorem postModifyingLoads : Obligations.PostModifyingLoads := fun _ =>
  ⟨storesThenSetsHl_of_complete rfl, storesThenSetsHl_of_complete rfl, loadsAThenSetsHl_of_complete rfl,
    loadsAThenSetsHl_of_complete rfl⟩

/-- Settles O20: each load is a register write of the source's old value or of the immediate. -/
theorem loadRegisterOrImmediate : Obligations.LoadRegisterOrImmediate :=
  ⟨fun rd rs s => loadsRegister_of_complete (exec_ldReg rd rs s),
    fun rd n8 s => loadsRegister_of_complete (exec_ldRegN8 rd n8 s)⟩

/-- Settles O22: each store is one write of the CPU at its address. -/
theorem storeRegisterToMemory : Obligations.StoreRegisterToMemory := fun s =>
  ⟨fun rs => storesAt_of_complete (exec_ldMemReg rs s), fun _ => storesAt_of_complete rfl, storesAt_of_complete rfl,
    storesAt_of_complete rfl, fun _ => storesAt_of_complete rfl, storesAt_of_complete rfl,
    fun _ => storesAt_of_complete rfl⟩

/-- Settles O24: the load is a write of the pair, which reads back and reaches SP only for dd = SP. -/
theorem loadPairImmediate : Obligations.LoadPairImmediate := by
  intro p n16 s
  have h : exec (Instr.ldPairN16 p n16) s = .next ((s.setPair p n16).setCycles _) := exec_ldPairN16 p n16 s
  refine ⟨_, h, ?_, fun r hr => ?_, ?_, ?_, ?_, ?_, ?_, fun a => ?_, (exec_effect h).rest⟩
  · exact setPair_pair_self s p n16
  · rw [State.setCycles_reg, keepsRegs_setPair s p n16 r hr]
  · by_cases hp : p = .sp
    · exact .inl hp
    · exact .inr (setPair_sp_of_ne s p n16 hp)
  · exact setPair_f s p n16
  · exact setPair_pc s p n16
  · exact setPair_ime s p n16
  · exact setPair_halted s p n16
  · exact memRead_setPair s p n16 a

end Sys2Proof.Machine
end

section
/-! The 8-bit ALU (R200–R239): each operation's result and flags as numbers, and the two shapes its instructions take, a
register or a byte of memory written together with F. -/

namespace Sys2Proof.Machine

/-! ### The results and flags as numbers -/

/-- A result is 0 when its number is (the flag Z of R201–R204). -/
theorem decide_eq_zero_of_toNat {res : Byte} {n : Nat} (h : res.toNat = n) : decide (res = 0) = decide (n = 0) := by
  rw [← h, decide_eq_decide, ← BitVec.toNat_inj]
  rfl

/-- A flag write whose Z tests a result, with Z as a test of the result's number. -/
theorem flagsAre_of_res_toNat {t : State} {res : Byte} {k : Nat} {n h c : Bool} (hres : res.toNat = k)
    (hf : t.f = packFlags (decide (res = 0)) n h c) : FlagsAre t (decide (k = 0)) n h c := by
  rw [← decide_eq_zero_of_toNat hres]
  exact flagsAre_packFlags hf

theorem carryIn_le_one (cin : Bool) : carryIn cin ≤ 1 := by
  cases cin <;> decide

section
variable (a v : Byte)

theorem aluAdd_res_toNat : (aluAdd a v).res.toNat = (a.toNat + v.toNat) % 256 := BitVec.toNat_ofNat _ _

theorem aluAdc_res_toNat (cin : Bool) : (aluAdc a v cin).res.toNat = (a.toNat + v.toNat + carryIn cin) % 256 :=
  BitVec.toNat_ofNat _ _

theorem aluSub_res_toNat : (aluSub a v).res.toNat = (a.toNat + 256 - v.toNat) % 256 := by
  have hv := v.isLt
  simp only [aluSub, BitVec.toNat_ofInt]
  omega

theorem aluSbc_res_toNat (cin : Bool) :
    (aluSbc a v cin).res.toNat = (a.toNat + 512 - v.toNat - carryIn cin) % 256 := by
  have hv := v.isLt
  have hc := carryIn_le_one cin
  simp only [aluSbc, BitVec.toNat_ofInt]
  omega

/-- SUB and CP set Z when the operands are equal (R203, R208). -/
theorem aluSub_z : (aluSub a v).z = decide (a = v) := by
  have hres := aluSub_res_toNat a v
  refine (decide_eq_zero_of_toNat hres).trans (decide_eq_decide.2 ?_)
  bv_omega

/-- The flags of SUB and CP (R203, R208). -/
theorem flagsAre_aluSub {t : State}
    (hf : t.f = packFlags (aluSub a v).z (aluSub a v).n (aluSub a v).h (aluSub a v).c) :
    FlagsAre t (decide (a = v)) true (decide (a.toNat % 16 < v.toNat % 16)) (decide (a.toNat < v.toNat)) := by
  simp only [← aluSub_z, ← lowNibble_eq]
  exact flagsAre_packFlags hf

theorem inc8_toNat : (inc8 v).toNat = (v.toNat + 1) % 256 := BitVec.toNat_add v 1

theorem inc8_eq_zero_iff : inc8 v = 0 ↔ v.toNat = 255 := by
  have hres := inc8_toNat v
  bv_omega

theorem inc8H_eq : inc8H v = decide (v.toNat % 16 = 15) := by
  rw [inc8H, lowNibble_eq, inc8_toNat, decide_eq_decide]
  omega

theorem dec8_toNat : (dec8 v).toNat = (v.toNat + 255) % 256 := by
  rw [Nat.add_comm]
  exact BitVec.toNat_sub v 1

theorem dec8_eq_zero_iff : dec8 v = 0 ↔ v.toNat = 1 := by
  have hres := dec8_toNat v
  bv_omega

theorem dec8H_eq : dec8H v = decide (v.toNat % 16 = 0) := by
  rw [dec8H, lowNibble_eq]

end

/-! ### The effects on A and F -/

/-- The ALU leaves a state with A and F as the rule of its operation computes them (R201–R208). -/
theorem aluEffect_of_alu {s t : State} (op : AluOp) (v : Byte) (ha : t.a = (s.alu op v).a)
    (hf : t.f = (s.alu op v).f) : AluEffect op s.a v s.carry t := by
  rw [← carry_eq]
  cases op with
  | add =>
    have hres := aluAdd_res_toNat s.a v
    simp only [AluEffect, ← lowNibble_eq]
    exact ⟨ha ▸ hres, flagsAre_of_res_toNat hres hf⟩
  | adc =>
    have hres := aluAdc_res_toNat s.a v s.flagC
    simp only [AluEffect, ← lowNibble_eq]
    exact ⟨ha ▸ hres, flagsAre_of_res_toNat hres hf⟩
  | sub => exact ⟨ha ▸ aluSub_res_toNat s.a v, flagsAre_aluSub s.a v hf⟩
  | sbc =>
    have hres := aluSbc_res_toNat s.a v s.flagC
    simp only [AluEffect, ← lowNibble_eq]
    exact ⟨ha ▸ hres, flagsAre_of_res_toNat hres hf⟩
  | and | xor | or => exact ⟨ha, flagsAre_packFlags hf⟩
  | cp => exact ⟨ha, flagsAre_aluSub s.a v hf⟩

/-- An ALU operation writes A and F and nothing else; CP writes the A it found (R200, R208). -/
theorem alu_eq (s : State) (op : AluOp) (v : Byte) : ∃ x f, s.alu op v = (s.setReg .a x).setF f := by
  cases op with
  | cp => exact ⟨s.a, _, rfl⟩
  | _ => exact ⟨_, _, rfl⟩

/-- INC leaves its number and flags when the flags are written in a state whose F is still the old one (R234). -/
theorem incEffect_of_incFlags {s u t : State} {v : Byte} (hu : u.f = s.f) (hf : t.f = (u.incFlags v).f) :
    IncEffect s t v (inc8 v) := by
  refine ⟨inc8_toNat v, ?_⟩
  simp only [← inc8_eq_zero_iff, ← inc8H_eq, ← hu]
  exact flagsAre_packFlags hf

/-- DEC leaves its number and flags when the flags are written in a state whose F is still the old one (R235). -/
theorem decEffect_of_decFlags {s u t : State} {v : Byte} (hu : u.f = s.f) (hf : t.f = (u.decFlags v).f) :
    DecEffect s t v (dec8 v) := by
  refine ⟨dec8_toNat v, ?_⟩
  simp only [← dec8_eq_zero_iff, ← dec8H_eq, ← hu]
  exact flagsAre_packFlags hf

/-! ### The shapes of the instructions, each from the one update it completes with -/

section
variable {i : Instr} {s : State} {c : Cost} {f : Byte}

theorem setsRegAndF_of_complete {r : Reg8} {v : Byte} (h : exec i s = ((s.setReg r v).setF f).complete c) :
    ∃ t, exec i s = .next t ∧ t.reg r = v ∧ t.f = f ∧ KeepsRegs s t [r] ∧ KeepsMemory s t ∧ KeepsSystem s t := by
  refine ⟨((s.setReg r v).setF f).setCycles c.val, h, ?_, rfl, fun r' hr' => ?_, fun a => ?_, ?_⟩
  · simp
  · simpa using keepsRegs_setReg s v (List.mem_singleton_self r) r' hr'
  · simp
  · exact ⟨by simp, by simp, by simp, by simp, (exec_effect h).rest⟩

theorem storesByteAndSetsF_of_complete {addr : Word} {v : Byte}
    (h : exec i s = ((s.memWrite addr v).setF f).complete c) :
    ∃ t, exec i s = .next t ∧ t.f = f ∧ StoresByte s t addr v ∧ KeepsRegs s t [] ∧ KeepsSystem s t := by
  obtain ⟨stores, -⟩ := writesFollowAddressMap s addr v
  refine ⟨((s.memWrite addr v).setF f).setCycles c.val, h, rfl, stores, fun r _ => ?_, ?_⟩
  · simp
  · exact ⟨rfl, rfl, rfl, rfl, (exec_effect h).rest⟩

/-- An instruction that completes with an ALU operation has its effect, and changes nothing but A and F. -/
theorem aluEffect_of_complete {op : AluOp} {v : Byte} (h : exec i s = (s.alu op v).complete c) :
    ∃ t, exec i s = .next t ∧ AluEffect op s.a v s.carry t ∧ KeepsRegs s t [.a] ∧ KeepsMemory s t ∧
      KeepsSystem s t := by
  obtain ⟨x, f, halu⟩ := alu_eq s op v
  rw [halu] at h
  obtain ⟨t, ht, ha, hf, frame⟩ := setsRegAndF_of_complete h
  exact ⟨t, ht, aluEffect_of_alu op v (by rw [halu]; exact ha) (by rw [halu]; exact hf), frame⟩

end

theorem exec_incAtHl (s : State) : exec .incAtHl s = incMem s := rfl

theorem exec_decAtHl (s : State) : exec .decAtHl s = decMem s := rfl

/-! ### The statements -/

/-- The register form of every ALU operation: its pattern, its effect and its frame. -/
theorem aluRegisterForm (op : AluOp) : AluRegisterForm op := fun r s =>
  ⟨encode_aluReg op r, aluEffect_of_complete (exec_aluReg op r s)⟩

/-- Settles O25: four of the register forms. -/
theorem aluArithmeticRegister : Obligations.AluArithmeticRegister :=
  ⟨aluRegisterForm .add, aluRegisterForm .adc, aluRegisterForm .sub, aluRegisterForm .sbc⟩

/-- Settles O26: the other four register forms. -/
theorem aluLogicAndCompareRegister : Obligations.AluLogicAndCompareRegister :=
  ⟨aluRegisterForm .and, aluRegisterForm .xor, aluRegisterForm .or, aluRegisterForm .cp⟩

/-- Settles O27: the memory form completes with the operation on the byte read at HL. -/
theorem aluMemoryOperand : Obligations.AluMemoryOperand := fun op s =>
  aluEffect_of_complete (exec_aluMem op s)

/-- Settles O28: the immediate form completes with the operation on its immediate. -/
theorem aluImmediateOperand : Obligations.AluImmediateOperand := fun op n8 s =>
  aluEffect_of_complete (exec_aluN8 op n8 s)

/-- Settles O29: a register and F are written, F from the old byte and the old flag C. -/
theorem incDecRegister : Obligations.IncDecRegister := by
  intro r s
  refine ⟨⟨encode_incReg r, ?_⟩, ⟨encode_decReg r, ?_⟩⟩
  · obtain ⟨t, ht, hreg, hf, frame⟩ := setsRegAndF_of_complete (exec_incReg r s)
    exact ⟨t, ht, hreg ▸ incEffect_of_incFlags (State.setReg_f s r _) hf, frame⟩
  · obtain ⟨t, ht, hreg, hf, frame⟩ := setsRegAndF_of_complete (exec_decReg r s)
    exact ⟨t, ht, hreg ▸ decEffect_of_decFlags (State.setReg_f s r _) hf, frame⟩

/-- Settles O30: a byte at HL and F are written, F from the byte read and the old flag C. -/
theorem incDecMemory : Obligations.IncDecMemory := by
  intro s
  constructor
  · obtain ⟨t, ht, hf, frame⟩ := storesByteAndSetsF_of_complete (exec_incAtHl s)
    exact ⟨t, _, ht, incEffect_of_incFlags (memWrite_f s s.hl _) hf, frame⟩
  · obtain ⟨t, ht, hf, frame⟩ := storesByteAndSetsF_of_complete (exec_decAtHl s)
    exact ⟨t, _, ht, decEffect_of_decFlags (memWrite_f s s.hl _) hf, frame⟩

end Sys2Proof.Machine
end

section
/-! 16-bit INC, DEC and ADD HL,dd (R250–R252): what a write of a pair does as an instruction's one update, alone and
together with F, and the flags of ADD HL,dd as numbers. -/

namespace Sys2Proof.Machine

/-! ### The flags of ADD HL,dd -/

/-- The mask of R252 is the remainder by 4096. -/
theorem low12_toNat (v : Word) : (v &&& 0xFFF).toNat = v.toNat % 4096 := by
  rw [BitVec.toNat_and]
  exact Nat.and_two_pow_sub_one_eq_mod v.toNat 12

/-- The flags of ADD HL,dd, written in a state whose F is still the old one (R252). -/
theorem flagsAre_of_add16Flags {s u t : State} {a b : Word} (hu : u.f = s.f) (hf : t.f = (u.add16Flags a b).f) :
    FlagsAre t (s.f.getLsbD 7) false (decide (a.toNat % 4096 + b.toNat % 4096 > 4095))
      (decide (a.toNat + b.toNat > 65535)) := by
  simp only [← low12_toNat, ← hu]
  exact flagsAre_packFlags hf

/-! ### The shapes of the instructions, each from the one update it completes with -/

section
variable {i : Instr} {s : State} {c : Cost} {p : Pair} {v : Word}

/-- A write of a pair reaches SP only for dd = SP, and leaves F and everything else alone (R250, R251). -/
theorem setsPair_of_complete (h : exec i s = (s.setPair p v).complete c) :
    ∃ t, exec i s = .next t ∧ t.pair p = v ∧ KeepsRegs s t p.regs ∧ (p = .sp ∨ t.sp = s.sp) ∧ t.f = s.f ∧
      t.pc = s.pc ∧ t.ime = s.ime ∧ t.halted = s.halted ∧ KeepsMemory s t ∧ KeepsRest s t := by
  refine ⟨(s.setPair p v).setCycles c.val, h, setPair_pair_self s p v, fun r hr => ?_,
    or_iff_not_imp_left.2 (setPair_sp_of_ne s p v), setPair_f s p v, setPair_pc s p v, setPair_ime s p v,
    setPair_halted s p v, memRead_setPair s p v, (exec_effect h).rest⟩
  rw [State.setCycles_reg, keepsRegs_setPair s p v r hr]

theorem setsHlAndF_of_complete {f : Byte} (h : exec i s = ((s.setPair .hl v).setF f).complete c) :
    ∃ t, exec i s = .next t ∧ t.pair .hl = v ∧ t.f = f ∧ KeepsRegs s t [.h, .l] ∧ KeepsMemory s t ∧
      KeepsSystem s t := by
  refine ⟨((s.setPair .hl v).setF f).setCycles c.val, h, setPair_pair_self s .hl v, rfl, fun r hr => ?_,
    memRead_setPair s .hl v, ⟨rfl, rfl, rfl, rfl, (exec_effect h).rest⟩⟩
  rw [State.setCycles_reg, State.setF_reg, keepsRegs_setPair s .hl v r hr]

end

/-! ### The statements, in a namespace of their own: `addHlPair` is the model's shared operation -/

namespace Arith16

/-- Settles O32: HL and F are written, the sum and the flags from the two operands read before, Z from the old F. -/
theorem addHlPair : Obligations.AddHlPair := by
  intro p s
  obtain ⟨t, ht, hhl, hf, frame⟩ := setsHlAndF_of_complete (exec_addHlPair p s)
  refine ⟨encode_addHlPair p, t, ht, ?_, ?_, frame⟩
  · rw [hhl]
    exact BitVec.toNat_add (s.pair .hl) (s.pair p)
  · exact flagsAre_of_add16Flags (setPair_f s .hl _) hf

/-- Settles O31: each is a write of the pair, with 1 added or taken away as a 16-bit number. -/
theorem incDecPair : Obligations.IncDecPair := by
  intro p s
  constructor
  · obtain ⟨t, ht, hpair, frame⟩ := setsPair_of_complete (exec_incPair p s)
    refine ⟨t, ht, ?_, frame⟩
    rw [hpair]
    exact BitVec.toNat_add (s.pair p) 1
  · obtain ⟨t, ht, hpair, frame⟩ := setsPair_of_complete (exec_decPair p s)
    refine ⟨t, ht, ?_, frame⟩
    rw [hpair, Nat.add_comm]
    exact BitVec.toNat_sub (s.pair p) 1

end Arith16

end Sys2Proof.Machine
end

section
/-! Absolute jumps, CALL, RET and RETI (R270–R277): what a pop of PC does as an instruction's one update, and the word
that a push leaves on top of the stack. -/

namespace Sys2Proof.Machine

/-! ### What is kept -/

theorem KeepsRest.trans {s t u : State} (h : KeepsRest s t) (h' : KeepsRest t u) : KeepsRest s u :=
  ⟨h'.fault.trans h.fault, h'.ly.trans h.ly, h'.acc.trans h.acc, h'.back.trans h.back, h'.front.trans h.front,
    h'.params.trans h.params, h'.extra.trans h.extra⟩

theorem keepsRest_setPc (s : State) (pc : Word) : KeepsRest s (s.setPc pc) := ⟨rfl, rfl, rfl, rfl, rfl, rfl, rfl⟩

/-! ### The stack -/

theorem pop16_sp_add_two (s : State) : s.pop16.2.sp = s.sp + 2 := by
  rw [pop16_sp]
  bv_omega

/-- A pushed word is on top of the stack when both of its bytes are stored (R300, R301). -/
theorem stackTop_of_storesPushed {s t : State} {v : Word} (hpush : StoresPushed s t v) (hsp : t.sp = s.sp - 2)
    (hhigh : storable (s.sp - 1) = true) (hlow : storable (s.sp - 2) = true) : t.stackTop = v := by
  have apart : s.sp - 1 ≠ s.sp - 2 := by bv_omega
  have above : s.sp - 2 + 1 = s.sp - 1 := by bv_omega
  have low : t.memRead (s.sp - 2) = loByte v := by rw [hpush, if_pos ⟨rfl, hlow⟩]
  have high : t.memRead (s.sp - 1) = hiByte v := by
    rw [hpush, if_neg fun same => apart same.1, if_pos ⟨rfl, hhigh⟩]
  rw [State.stackTop, hsp, above, high, low, wordOf_bytes]

/-- RET and RETI as the one update they complete with (R276, R277). -/
theorem popsPc_of_complete {i : Instr} {s : State} {c : Cost} {ime : Bool}
    (h : exec i s = ((s.pop16.2.setPc s.pop16.1).setIme ime).complete c) : PopsPc i s ime :=
  ⟨_, h, pop16_value s, pop16_sp_add_two s, rfl, fun r _ => by simp, pop16_f s, pop16_halted s, pop16_memRead s,
    (exec_effect h).rest⟩

/-! ### The statements -/

/-- Settles O33: the taken jump sets PC, the jump not taken leaves PC as it is. -/
theorem absoluteJumps : Obligations.AbsoluteJumps := by
  intro n16 s
  simp only [← State.cond_iff]
  refine ⟨⟨rfl, rfl⟩, rfl, rfl, setsControl_of_complete rfl, fun cc => ?_⟩
  rw [encode_jpCc]
  refine ⟨rfl, rfl, ?_⟩
  split
  · next taken => exact setsControl_of_complete ((exec_jpCc cc n16 s).trans (if_pos taken))
  · next notTaken => exact setsControl_of_complete ((exec_jpCc cc n16 s).trans (if_neg notTaken))

/-- Settles O35: CALL is the push of PC, then the jump. -/
theorem callPushesReturnAddress : Obligations.CallPushesReturnAddress := fun _ _ => pushesAndGoes_of_complete rfl

/-- Settles O37: RET is the pop of PC, with IME as it was. -/
theorem returnPopsPc : Obligations.ReturnPopsPc := fun _ => popsPc_of_complete rfl

/-- Settles O38: RETI is the pop of PC, with IME set. -/
theorem returnFromInterruptSetsIme : Obligations.ReturnFromInterruptSetsIme := fun _ => popsPc_of_complete rfl

/-- Settles O39: the word that CALL leaves on top of the stack is the PC that RET pops; the fetch between them moves PC
alone. -/
theorem callThenReturnRestores : Obligations.CallThenReturnRestores := by
  intro s n16 fetched hhigh hlow
  obtain ⟨t, ht, hpush, htSp, -, htRegs, htF, htIme, htHalted, htRest⟩ := callPushesReturnAddress n16 s
  obtain ⟨u, hu, huPc, huSp, huIme, huRegs, huF, huHalted, -, huRest⟩ := returnPopsPc (t.setPc fetched)
  have pcBack : u.pc = s.pc := huPc.trans (stackTop_of_storesPushed hpush htSp hhigh hlow)
  have spBack : u.sp = s.sp := by rw [huSp, State.setPc_sp, htSp, BitVec.sub_add_cancel]
  have regsKept : KeepsRegs t (t.setPc fetched) [] := fun r _ => State.setPc_reg t fetched r
  exact ⟨t, u, ht, hu, pcBack, spBack, (htRegs.trans regsKept).trans huRegs, huF.trans htF, huIme.trans htIme,
    huHalted.trans htHalted, (htRest.trans (keepsRest_setPc t fetched)).trans huRest⟩

end Sys2Proof.Machine
end

section
/-! PUSH and POP (R300–R305): what a pop writes, as a function of the word on top of the stack, and the round trip. -/

namespace Sys2Proof.Machine

/-! ### What a write of the pair qq does to each part of the state (R24, R25) -/

/-- The 8-bit registers of the pair qq, each with the half of the word it takes; the low half of AF is F. -/
def pairRegs (q : StackPair) (v : Word) : List (Reg8 × Byte) :=
  match q with
  | .bc => [(.b, hiByte v), (.c, loByte v)]
  | .de => [(.d, hiByte v), (.e, loByte v)]
  | .hl => [(.h, hiByte v), (.l, loByte v)]
  | .af => [(.a, hiByte v)]

/-- F after a write of the pair qq: only AF writes it, with the low nibble cleared (R25). -/
def pairF (q : StackPair) (v : Word) (f : Byte) : Byte :=
  match q with
  | .af => BitVec.ofNat 8 ((loByte v).toNat / 16 * 16)
  | _ => f

section
variable (s : State) (q : StackPair) (v : Word)

@[simp] theorem setStackPair_sp : (s.setStackPair q v).sp = s.sp := by cases q <;> rfl
@[simp] theorem setStackPair_pc : (s.setStackPair q v).pc = s.pc := by cases q <;> rfl
@[simp] theorem setStackPair_ime : (s.setStackPair q v).ime = s.ime := by cases q <;> rfl
@[simp] theorem setStackPair_halted : (s.setStackPair q v).halted = s.halted := by cases q <;> rfl

@[simp] theorem memRead_setStackPair (a : Word) : (s.setStackPair q v).memRead a = s.memRead a := by cases q <;> rfl

theorem setStackPair_reg_of_mem : ∀ w ∈ pairRegs q v, (s.setStackPair q v).reg w.1 = w.2 := by
  cases q <;> simp [pairRegs, State.setStackPair, State.setPair, State.setReg_reg]

theorem keepsRegs_setStackPair : KeepsRegs s (s.setStackPair q v) ((pairRegs q v).map Prod.fst) := by
  cases q with
  | bc => exact keepsRegs_setPair s .bc v
  | de => exact keepsRegs_setPair s .de v
  | hl => exact keepsRegs_setPair s .hl v
  | af => exact keepsRegs_setStackPair_af s v

theorem setStackPair_f : (s.setStackPair q v).f = pairF q v s.f := by
  cases q with
  | af =>
    apply BitVec.eq_of_toNat_eq
    have hlow := (loByte v).isLt
    rw [pairF, BitVec.toNat_ofNat, Nat.mod_eq_of_lt (by omega)]
    exact mask_high_toNat (loByte v)
  | _ => rfl

/-! ### The pair's own word -/

theorem pairRegs_stackPair : ∀ w ∈ pairRegs q (s.stackPair q), w.2 = s.reg w.1 := by
  cases q <;> simp [pairRegs, State.stackPair, State.reg]

end

/-- A flag byte whose low nibble is 0 survives the mask of the AF setter (R22, R25). -/
theorem pairF_stackPair {s : State} (q : StackPair) (hf : s.f &&& 0x0F = 0) : pairF q (s.stackPair q) s.f = s.f := by
  cases q with
  | af =>
    have lowClear : s.f.toNat % 16 = 0 := by
      rw [← lowNibble_eq, lowNibble, hf]
      rfl
    rw [pairF, State.stackPair, loByte_wordOf, Nat.div_mul_cancel (Nat.dvd_of_mod_eq_zero lowClear), BitVec.ofNat_toNat,
      BitVec.setWidth_eq]
  | _ => rfl

/-- Registers that were written with the bytes they held are kept like the rest. -/
theorem keepsRegs_of_written_same {s t : State} {written : List (Reg8 × Byte)} (hw : ∀ w ∈ written, t.reg w.1 = w.2)
    (hsame : ∀ w ∈ written, w.2 = s.reg w.1) (hkept : KeepsRegs s t (written.map Prod.fst)) : KeepsRegs s t [] := by
  intro r _
  by_cases hr : r ∈ written.map Prod.fst
  · obtain ⟨w, hmem, rfl⟩ := List.mem_map.1 hr
    exact (hw w hmem).trans (hsame w hmem)
  · exact hkept r hr

/-- POP qq writes the word on top of the stack to the pair, for all four pairs (R301, R304, R305). -/
theorem pop_popsRegs (q : StackPair) (s : State) :
    PopsRegs (Instr.pop q) s (pairRegs q s.stackTop) (pairF q s.stackTop s.f) := by
  refine ⟨(s.pop16.2.setStackPair q s.stackTop).setCycles (s.cost (.pop q)).val, exec_pop q s, fun w hw => ?_, ?_, ?_,
    fun r hr => ?_, by simp, by simp, by simp, fun a => by simp, (exec_effect (exec_pop q s)).rest⟩
  · rw [State.setCycles_reg, setStackPair_reg_of_mem _ q _ w hw]
  · rw [State.setCycles_f, setStackPair_f, pop16_f]
  · rw [State.setCycles_sp, setStackPair_sp, pop16_sp_add_two]
  · rw [State.setCycles_reg, keepsRegs_setStackPair _ q _ r hr, pop16_reg]

/-! ### The statements -/

/-- Settles O40: PUSH is the push of the pair's word, with PC as it was. -/
theorem pushStoresPair : Obligations.PushStoresPair := fun q s =>
  ⟨encode_push q, pushesAndGoes_of_complete (exec_push q s)⟩

/-- Settles O41: the halves of the word on top of the stack are the bytes at SP + 1 and at SP. -/
theorem popLoadsPair : Obligations.PopLoadsPair := by
  intro s
  have high : hiByte s.stackTop = s.memRead (s.sp + 1) := hiByte_wordOf _ _
  have low : loByte s.stackTop = s.memRead s.sp := loByte_wordOf _ _
  rw [← high, ← low]
  exact ⟨pop_popsRegs .bc s, pop_popsRegs .de s, pop_popsRegs .hl s, pop_popsRegs .af s⟩

/-- Settles O42: the word on top of the stack that POP reads is the pair that PUSH read, and a write of a pair's own word
changes neither its registers nor F; the fetch between them moves PC alone. -/
theorem pushPopRoundTrip : Obligations.PushPopRoundTrip := by
  intro q s fetched hhigh hlow hflags
  obtain ⟨-, t, ht, hpush, htSp, -, htRegs, htF, htIme, htHalted, htRest⟩ := pushStoresPair q s
  obtain ⟨u, hu, huWritten, huF, huSp, huRegs, -, huIme, huHalted, -, huRest⟩ := pop_popsRegs q (t.setPc fetched)
  have top : (t.setPc fetched).stackTop = s.stackPair q := stackTop_of_storesPushed hpush htSp hhigh hlow
  rw [top] at huWritten huF huRegs
  have spBack : u.sp = s.sp := by rw [huSp, State.setPc_sp, htSp, BitVec.sub_add_cancel]
  have fBack : u.f = s.f := by rw [huF, State.setPc_f, htF, pairF_stackPair q hflags]
  have others : KeepsRegs s u ((pairRegs q (s.stackPair q)).map Prod.fst) := fun r hr => by
    rw [huRegs r hr, State.setPc_reg, htRegs r List.not_mem_nil]
  exact ⟨t, u, ht, hu, spBack, keepsRegs_of_written_same huWritten (pairRegs_stackPair s q) others, fBack,
    huIme.trans htIme, huHalted.trans htHalted, (htRest.trans (keepsRest_setPc t fetched)).trans huRest⟩

end Sys2Proof.Machine
end

section
/-! NOP, HALT, DI and EI (R320–R323): what each does at once, and the dispatch that ends the iteration of an EI (R409,
R443). -/

namespace Sys2Proof.Machine

/-! ### The bytes of a push -/

section
variable {s t : State} {v : Word} (h : StoresPushed s t v)
include h

theorem StoresPushed.low (stored : storable (s.sp - 2) = true) : t.memRead (s.sp - 2) = loByte v := by
  rw [h, if_pos ⟨rfl, stored⟩]

theorem StoresPushed.high (stored : storable (s.sp - 1) = true) : t.memRead (s.sp - 1) = hiByte v := by
  have apart : s.sp - 1 ≠ s.sp - 2 := by bv_omega
  rw [h, if_neg fun same => apart same.1, if_pos ⟨rfl, stored⟩]

end

/-! ### The VBlank dispatch -/

/-- The dispatch pushes PC over a memory in which IF bit 0 is already clear (R407). -/
theorem storesPushed_dispatchVBlank (s : State) :
    StoresPushed ((s.setIme false).setMem (s.mem.write 0xFF0F (s.ifReg &&& 0xFE))) s.dispatchVBlank s.pc := by
  intro a
  rw [dispatchVBlank_eq, memRead_setPc]
  exact storesPushed_push16 _ s.pc a

theorem dispatchVBlank_sp (s : State) : s.dispatchVBlank.sp = s.sp - 2 := push16_sp_sub_two s s.pc

/-- With IME set and VBlank pending, the controller wakes the CPU and dispatches (R404, R405, R407). -/
theorem handleInterrupts_of_vblank {s : State} (hime : s.ime = true) (hbit : s.pending.getLsbD 0 = true) :
    s.handleInterrupts = (s.setHalted false).dispatchVBlank.setExtra 20 := by
  have hpending : s.pending ≠ 0 := fun nothing => by simp [nothing] at hbit
  have hwake : s.wake = s.setHalted false := by rw [wake_of_pending, if_neg hpending]
  have notIdle : ¬ (s.ime = false ∨ s.pending = 0) := not_or.2 ⟨by simp [hime], hpending⟩
  rw [State.handleInterrupts, hwake]
  exact (if_neg notIdle).trans (if_pos hbit)

/-- The state t has taken the VBlank interrupt from a stack pointer and a program counter (R407). -/
structure TookVBlank (oldSp oldPc : Word) (t : State) : Prop where
  ime : t.ime = false
  pc : t.pc = 0x0040
  sp : t.sp = oldSp - 2
  extra : t.extra = 20
  high : storable (oldSp - 1) = true → t.memRead (oldSp - 1) = hiByte oldPc
  low : storable (oldSp - 2) = true → t.memRead (oldSp - 2) = loByte oldPc

theorem handleInterrupts_takes_vblank {s : State} (hime : s.ime = true) (hbit : s.pending.getLsbD 0 = true) :
    TookVBlank s.sp s.pc s.handleInterrupts := by
  have hpush := storesPushed_dispatchVBlank (s.setHalted false)
  rw [handleInterrupts_of_vblank hime hbit]
  exact ⟨rfl, rfl, dispatchVBlank_sp _, rfl, hpush.high, hpush.low⟩

/-- The timer can only set IF bit 0, so a VBlank that is pending stays pending (R372). -/
theorem updateScanline_keeps_vblank {s : State} (n : Nat) (h : s.pending.getLsbD 0 = true) :
    (s.updateScanline n).pending.getLsbD 0 = true := by
  simp only [State.pending, State.ifReg, State.ieReg, BitVec.getLsbD_and, Bool.and_eq_true] at h ⊢
  obtain ⟨hrequest, henable⟩ := h
  refine ⟨?_, by rwa [updateScanline_mem_read s n (by decide)]⟩
  rcases updateScanline_mem s n with hmem | hmem <;> rw [hmem]
  · exact hrequest
  · rw [Memory.read_write, if_pos rfl, BitVec.getLsbD_or, hrequest, Bool.true_or]

/-- An iteration that ends its Step with IME set and VBlank pending takes the interrupt, whatever its timer does
(R126). -/
theorem finishIteration_takes_vblank {s : State} (hime : s.ime = true) (hbit : s.pending.getLsbD 0 = true) :
    TookVBlank s.sp s.pc s.finishIteration := by
  have himeTimer : (s.updateScanline s.cycles).ime = true := (updateScanline_ime s s.cycles).trans hime
  rw [← updateScanline_sp s s.cycles, ← updateScanline_pc s s.cycles]
  exact handleInterrupts_takes_vblank himeTimer (updateScanline_keeps_vblank s.cycles hbit)

/-! ### The fetch of EI -/

/-- EI is admitted under either setting of the switch (R104), and its one byte is 0xFB (R102). -/
theorem fetch_of_ei {s : State} (h : s.memRead s.pc = 0xFB) : s.fetch = .instr .ei 1 := by
  refine fetch_of_encode (i := .ei) (Bool.or_true _) fun k hk => ?_
  obtain rfl : k = 0 := Nat.lt_one_iff.1 hk
  exact (congrArg s.memRead (BitVec.add_zero s.pc)).trans h

/-! ### The statements -/

/-- Settles O43: each is an update of IME and halted, with PC as it was. -/
theorem nopHaltDiEi : Obligations.NopHaltDiEi := fun _ =>
  ⟨setsControl_of_complete rfl, setsControl_of_complete rfl, setsControl_of_complete rfl, setsControl_of_complete rfl⟩

/-- Settles O55: EI leaves IME set, PC after it and memory as it was, so the rest of its iteration dispatches from
there. -/
theorem eiDispatchesInItsOwnIteration : Obligations.EiDispatchesInItsOwnIteration := by
  intro s hfault hawake hbyte hbit
  obtain ⟨u, hu, hstep⟩ := step_of_fetch hfault hawake (fetch_of_ei hbyte)
  obtain rfl : ((s.advancePc 1).setIme true).setCycles (s.cost .ei).val = u := Host.Outcome.next.inj hu
  have took : TookVBlank s.sp (s.pc + 1) _ :=
    finishIteration_takes_vblank (s := ((s.advancePc 1).setIme true).setCycles (s.cost .ei).val) rfl hbit
  exact ⟨_, hstep, took.ime, took.pc, took.sp, took.extra, took.high, took.low⟩

end Sys2Proof.Machine
end

section
/-! The extended operations RL, SWAP, BIT and RES (R340–R348): each result and flag as a number or bit by bit, and an
instruction whose one update is a write of F. -/

namespace Sys2Proof.Machine

/-! ### The results as numbers and bits -/

section
variable (v : Byte)

/-- The byte shifted left leaves bit 0 free for the old flag C (R341). -/
theorem rl8_eq_add (cin : Bool) : rl8 v cin = v <<< 1 + BitVec.ofNat 8 (carryIn cin) := by
  cases cin with
  | false => simp [rl8, carryIn]
  | true =>
    refine (BitVec.add_eq_or_of_and_eq_zero (v <<< 1) 1 ?_).symm
    apply BitVec.eq_of_getLsbD_eq
    intro k hk
    interval_cases k <;> simp

theorem rl8_toNat (cin : Bool) : (rl8 v cin).toNat = (2 * v.toNat + carryIn cin) % 256 := by
  rw [rl8_eq_add, BitVec.toNat_add, BitVec.toNat_shiftLeft, BitVec.toNat_ofNat, Nat.shiftLeft_eq]
  omega

/-- Bit 7, which RL moves into flag C (R341), is set from 128 on. -/
theorem getLsbD_seven_eq_decide : v.getLsbD 7 = decide (v.toNat ≥ 128) :=
  v.msb_eq_getLsbD_last.symm.trans v.msb_eq_decide

/-- The low nibble becomes the high one and the high nibble the low one (R343). -/
theorem swap8_toNat : (swap8 v).toNat = v.toNat % 16 * 16 + v.toNat / 16 := by
  have hlow : (v &&& 0x0F).toNat = v.toNat % 16 := lowNibble_eq v
  have hhigh : v.toNat / 16 < 2 ^ 4 := by omega
  have hfits : v.toNat % 16 * 16 < 2 ^ 8 := by omega
  rw [swap8, BitVec.toNat_or, BitVec.toNat_shiftLeft, hlow, BitVec.toNat_ushiftRight, Nat.shiftRight_eq_div_pow,
    Nat.mod_eq_of_lt (by rwa [Nat.shiftLeft_eq]), ← Nat.shiftLeft_add_eq_or_of_lt hhigh, Nat.shiftLeft_eq]

theorem swap8_eq_zero_iff : swap8 v = 0 ↔ v.toNat = 0 := by
  have hres := swap8_toNat v
  bv_omega

/-- A bit of a byte as a digit of its number. -/
theorem not_getLsbD_eq_decide (k : Nat) : (!v.getLsbD k) = decide (v.toNat / 2 ^ k % 2 = 0) := by
  rw [BitVec.getLsbD, Nat.testBit_eq_decide_div_mod_eq, ← decide_not, decide_eq_decide]
  omega

theorem resetBit_res8 (b : Fin 8) : ResetBit b v (res8 b v) := by
  intro k hk
  split
  · next h => simp [res8, h]
  · next h =>
    have hother : k < b.val ∨ k - b.val ≠ 0 := by omega
    simp [res8, hk, hother]

end

/-! ### The effects, with the flags written in a state whose F is still the old one -/

section
variable {s u t : State} {v : Byte} (hu : u.f = s.f)
include hu

theorem rotateEffect_of_rlFlags (hf : t.f = (u.rlFlags v).f) : RotateEffect s t v (rl8 v s.flagC) := by
  have hres := rl8_toNat v s.flagC
  rw [RotateEffect, ← carry_eq, ← getLsbD_seven_eq_decide]
  obtain ⟨-, -, -, hcarry⟩ := flags_of_f hu
  refine ⟨hres, flagsAre_of_res_toNat hres ?_⟩
  rw [hf, ← hcarry]
  rfl

theorem bitEffect_of_bitFlags {b : Fin 8} (hf : t.f = (u.bitFlags b v).f) : BitEffect s t b v := by
  rw [BitEffect, ← not_getLsbD_eq_decide, ← hu]
  exact flagsAre_packFlags hf

end

theorem swapEffect_of_flags {t : State} {v : Byte} (hf : t.f = packFlags (decide (swap8 v = 0)) false false false) :
    SwapEffect t v (swap8 v) := by
  refine ⟨swap8_toNat v, ?_⟩
  simp only [← swap8_eq_zero_iff]
  exact flagsAre_packFlags hf

theorem setsF_of_complete {i : Instr} {s : State} {c : Cost} {f : Byte} (h : exec i s = (s.setF f).complete c) :
    ∃ t, exec i s = .next t ∧ t.f = f ∧ KeepsRegs s t [] ∧ KeepsMemory s t ∧ KeepsSystem s t :=
  ⟨(s.setF f).setCycles c.val, h, rfl, fun r _ => State.setF_reg s f r, fun _ => rfl,
    ⟨rfl, rfl, rfl, rfl, (exec_effect h).rest⟩⟩

theorem exec_rlAtHl (s : State) : exec .rlAtHl s = rlMem s := rfl

theorem exec_swapAtHl (s : State) : exec .swapAtHl s = swapMem s := rfl

/-! ### The statements -/

/-- Settles O44: a register or the byte at HL is written together with F, both from the old byte and, for RL, from the
old flag C. -/
theorem rotateAndSwap : Obligations.RotateAndSwap := by
  intro s
  refine ⟨fun r => ?_, ?_, fun r => ?_, ?_⟩
  · obtain ⟨t, ht, hreg, hf, frame⟩ := setsRegAndF_of_complete (exec_rlReg r s)
    exact ⟨t, ht, hreg ▸ rotateEffect_of_rlFlags (State.setReg_f s r _) hf, frame⟩
  · obtain ⟨t, ht, hf, frame⟩ := storesByteAndSetsF_of_complete (exec_rlAtHl s)
    exact ⟨t, _, ht, rotateEffect_of_rlFlags (memWrite_f s s.hl _) hf, frame⟩
  · obtain ⟨t, ht, hreg, hf, frame⟩ := setsRegAndF_of_complete (exec_swapReg r s)
    exact ⟨t, ht, hreg ▸ swapEffect_of_flags hf, frame⟩
  · obtain ⟨t, ht, hf, frame⟩ := storesByteAndSetsF_of_complete (exec_swapAtHl s)
    exact ⟨t, _, ht, swapEffect_of_flags hf, frame⟩

/-- Settles O45: F is the only part of the state written, from the tested bit and the old flag C. -/
theorem bitTest : Obligations.BitTest := by
  intro b s
  refine ⟨fun r => ?_, ?_⟩
  · obtain ⟨t, ht, hf, frame⟩ := setsF_of_complete (exec_bitReg b r s)
    exact ⟨t, ht, bitEffect_of_bitFlags rfl hf, frame⟩
  · obtain ⟨t, ht, hf, frame⟩ := setsF_of_complete (exec_bitMem b s)
    exact ⟨t, ht, bitEffect_of_bitFlags rfl hf, frame⟩

/-- Settles O46: RES is a load of the register, or a store at HL, of the byte with its bit masked. -/
theorem bitReset : Obligations.BitReset := by
  intro b s
  refine ⟨fun r => ?_, ?_⟩
  · obtain ⟨t, ht, hreg, hregs, hf, frame⟩ := loadsRegister_of_complete (exec_resReg b r s)
    exact ⟨t, ht, hreg ▸ resetBit_res8 (s.reg r) b, hf, hregs, frame⟩
  · obtain ⟨t, ht, stores, hregs, hf, hsystem⟩ := storesAt_of_complete (exec_resMem b s)
    exact ⟨t, _, ht, resetBit_res8 (s.memRead (s.pair .hl)) b, hf, stores, hregs, hsystem⟩

end Sys2Proof.Machine
end

section
/-! The scanline timer and the PPU (R370–R382): what a line boundary does at each line, where a tile lies in VRAM, and
the row a scanline draws. -/

namespace Sys2Proof.Machine

/-! ### The line boundary at each line -/

section
variable (s : State)

theorem renderVisible_of_lt (h : s.ly.toNat < 144) : s.renderVisible = s.renderScanline s.ly.toNat := if_pos h

theorem renderVisible_of_ge (h : 144 ≤ s.ly.toNat) : s.renderVisible = s := if_neg (by omega)

/-- Every boundary but the one after line 143 is without VBlank entry (R370, R372). -/
theorem lineBoundary_of_ne_143 (h : s.ly ≠ 143) : s.lineBoundary = s.renderVisible.advanceLine.wrapLine := by
  have hly : s.renderVisible.advanceLine.ly ≠ 144 := by
    rw [advanceLine_ly, renderVisible_ly]
    bv_omega
  rw [State.lineBoundary, State.enterVBlank, if_neg hly]

/-- The boundary after a visible line but the last draws it and moves on. -/
theorem lineBoundary_of_visible (h : s.ly.toNat < 143) :
    s.lineBoundary = (s.renderScanline s.ly.toNat).setLy (s.ly + 1) := by
  rw [lineBoundary_of_ne_143 s (by bv_omega), renderVisible_of_lt s (by omega), State.advanceLine, renderScanline_ly]
  exact wrapLine_of_le _ (by rw [State.setLy_ly]; bv_omega)

/-- The boundary after line 143 draws it, shows the buffer and requests the interrupt (R372). -/
theorem lineBoundary_of_last_visible (h : s.ly = 143) :
    s.lineBoundary = ((s.renderScanline 143).setLy 144).swapBuffers.requestVBlank := by
  have hdraw : s.renderVisible = s.renderScanline 143 := by
    rw [renderVisible_of_lt s (by simp [h]), h]
    rfl
  rw [lineBoundary_of_143 s h, hdraw, State.advanceLine, renderScanline_ly, h]
  rfl

/-- Inside VBlank a boundary only moves on. -/
theorem lineBoundary_of_blank (hblank : 144 ≤ s.ly.toNat) (h : s.ly.toNat < 153) :
    s.lineBoundary = s.setLy (s.ly + 1) := by
  rw [lineBoundary_of_ne_143 s (by bv_omega), renderVisible_of_ge s hblank]
  exact wrapLine_of_le _ (by rw [advanceLine_ly]; bv_omega)

/-- After line 153 LY is 0 again; from 255, which no run reaches, the increment itself gives 0. -/
theorem lineBoundary_of_end (h : 153 ≤ s.ly.toNat) : s.lineBoundary = s.setLy 0 := by
  rw [lineBoundary_of_ne_143 s (by bv_omega), renderVisible_of_ge s (by omega), State.wrapLine]
  split
  · rfl
  · next hstay =>
    have hzero : s.ly + 1 = 0 := by
      rw [advanceLine_ly] at hstay
      bv_omega
    rw [State.advanceLine, hzero]

end

/-- Settles O47: inside a line the timer counts; at its end acc loses a line, which no draw looks at, and the boundary
follows LY. -/
theorem scanlineTimer : Obligations.ScanlineTimer := by
  intro s c
  have hboundary := updateScanline_of_ge s c
  generalize s.acc + c - 456 = k at hboundary ⊢
  refine ⟨updateScanline_of_lt s c, fun hend hly => ?_, fun hend hly => ?_, fun hend hblank hly => ?_,
    fun hend hly => ?_⟩
  · rw [hboundary hend, lineBoundary_of_visible (s.setAcc k) hly, renderScanline_setAcc]
    rfl
  · rw [hboundary hend, lineBoundary_of_last_visible (s.setAcc k) hly, renderScanline_setAcc,
      ← renderScanline_mem s 143]
    generalize s.renderScanline 143 = drawn
    rfl
  · exact (hboundary hend).trans (lineBoundary_of_blank (s.setAcc k) hblank hly)
  · exact (hboundary hend).trans (lineBoundary_of_end (s.setAcc k) hly)

/-! ### Tiles -/

/-- Both addressing modes start a tile at a natural number, the signed one 16 bytes a step from 0x1000 (R374). -/
theorem tileStart_eq (lcdc index : Byte) : tileStart lcdc index = tileOffset lcdc index := by
  simp only [tileStart, tileOffset, Bool.or_eq_true, decide_eq_true_eq]
  split
  · omega
  · rw [BitVec.toInt_eq_toNat_cond]
    split <;> split <;> omega

/-- The last tile of the signed mode ends where the maps begin (R374, R379). -/
theorem tileOffset_le (lcdc index : Byte) : tileOffset lcdc index + 16 ≤ 0x1800 := by
  unfold tileOffset
  repeat' split
  all_goals omega

/-- From index 128 on the two modes agree (R374). -/
theorem tileOffset_of_ge {index : Byte} (lcdc : Byte) (h : 128 ≤ index.toNat) :
    tileOffset lcdc index = index.toNat * 16 := by
  rw [tileOffset, if_neg (by omega : ¬ index.toNat < 128), ite_self]

/-- No tile leaves VRAM, so a tile is never the blank one of R375. -/
theorem getTile_eq (s : State) (lcdc index : Byte) :
    s.getTile lcdc index = (List.range 16).map fun k => s.vramByte (tileOffset lcdc index + k) := by
  have hfits := tileOffset_le lcdc index
  rw [State.getTile, tileStart_eq]
  exact if_neg (by rw [vramSize]; omega)

theorem getTile_getD (s : State) (lcdc index : Byte) {k : Nat} (hk : k < 16) :
    (s.getTile lcdc index).getD k 0 = s.vramByte (tileOffset lcdc index + k) := by
  rw [getTile_eq, List.getD_eq_getElem _ _ (by simpa using hk), List.getElem_map, List.getElem_range]

/-- Settles O49: the two modes agree on where a tile starts, and the tile's 16 bytes lie before the maps. -/
theorem tilesStayInVram : Obligations.TilesStayInVram := fun lcdc index =>
  ⟨tileStart_eq lcdc index, tileOffset_le lcdc index, tileOffset_of_ge lcdc,
    fun s k => ⟨by rw [getTile_eq, List.length_map, List.length_range], getTile_getD s lcdc index k.isLt⟩⟩

/-! ### The row a scanline draws -/

/-- The pixel of a tile takes its bit of the high plane and its bit of the low plane from VRAM (R376). -/
theorem tilePixel_getTile_toNat (s : State) (lcdc index : Byte) {row : Nat} (hrow : row < 8) (col : Nat) :
    (tilePixel (s.getTile lcdc index) row col).toNat = s.tilePixelAt (tileOffset lcdc index) row col := by
  have hhigh := getTile_getD s lcdc index (k := 2 * row + 1) (by omega)
  have hlow := getTile_getD s lcdc index (k := 2 * row) (by omega)
  rw [tilePixel, hhigh, hlow, BitVec.toNat_append, BitVec.toNat_ofBool, BitVec.toNat_ofBool,
    ← Nat.shiftLeft_add_eq_or_of_lt (Bool.toNat_lt _), Nat.shiftLeft_eq, Nat.mul_comm]
  rfl

theorem scanline_get_toNat (s : State) (y : Nat) (x : Fin 160) :
    ((s.scanline y).get x).toNat =
      s.tilePixelAt (tileOffset s.lcdc (s.mapIndex s.lcdc (y / 8) (x.val / 8))) (y % 8) (x.val % 8) := by
  rw [State.scanline, Vector.get_ofFn]
  exact tilePixel_getTile_toNat s _ _ (Nat.mod_lt y (by decide)) _

/-- With the LCD on, a visible scanline replaces its row of the back buffer (R380). -/
theorem renderScanline_back {s : State} {y : Nat} (hlcd : s.lcdc.getLsbD 7 = true) (hy : y < 144) :
    (s.renderScanline y).back = s.back.setIfInBounds y (s.scanline y) := by
  have hdraws : ¬ (s.lcdc.getLsbD 7 = false ∨ y ≥ visibleLines) := not_or.2 ⟨by simp [hlcd], Nat.not_le_of_lt hy⟩
  rw [State.renderScanline, if_neg hdraws, State.setBack_back]

/-- Settles O48: nothing is drawn, or the row of the back buffer is replaced by its 160 pixels. -/
theorem renderScanlineDrawsItsRow : Obligations.RenderScanlineDrawsItsRow := by
  intro s y
  refine ⟨fun hnothing => if_pos hnothing, fun hlcd hy => ⟨renderScanline_eq s y, fun row hrow => ?_, fun x => ?_⟩⟩
  · rw [renderScanline_back hlcd hy]
    exact Vector.getElem_setIfInBounds_ne row.isLt (Ne.symm hrow)
  · have hrow : (s.renderScanline y).back.get ⟨y, hy⟩ = s.scanline y := by
      rw [renderScanline_back hlcd hy]
      exact Vector.getElem_setIfInBounds_self hy
    rw [hrow]
    exact scanline_get_toNat s y x

end Sys2Proof.Machine
end

section
/-! The interrupt controller (R404–R408): the wake, the answer when nothing is dispatched, and memory after a
dispatch. -/

namespace Sys2Proof.Machine

section
variable {s : State}

/-! ### Without a dispatch -/

/-- Any pending bit wakes the CPU (R405). -/
theorem wake_of_ne (hpending : s.pending ≠ 0) : s.wake = s.setHalted false := by
  rw [wake_of_pending, if_neg hpending]

/-- With IME false or nothing pending the controller wakes at most and returns 0 (R406). -/
theorem handleInterrupts_of_idle (h : s.ime = false ∨ s.pending = 0) : s.handleInterrupts = s.wake.setExtra 0 := by
  have hwake : s.wake.ime = false ∨ s.wake.pending = 0 := by
    rw [wake_of_pending]
    exact h
  exact if_pos hwake

/-- Without VBlank among the pending bits the controller wakes at most and returns 0, whatever IME is (R408). -/
theorem handleInterrupts_of_no_vblank (hbit : s.pending.getLsbD 0 = false) :
    s.handleInterrupts = s.wake.setExtra 0 := by
  have hwake : s.wake.pending.getLsbD 0 = false := by
    rw [wake_of_pending]
    exact hbit
  simp only [State.handleInterrupts, hwake, Bool.false_eq_true, if_false, ite_self]

/-- Neither answer of the controller halts the CPU again (R405). -/
theorem handleInterrupts_halted_of_pending (hpending : s.pending ≠ 0) : s.handleInterrupts.halted = false := by
  rcases handleInterrupts_cases s with h | h <;> rw [h, wake_of_ne hpending] <;> rfl

/-- Settles O52: the idle answer, with the wake written as one update of halted. -/
theorem noDispatchWithoutEnable : Obligations.NoDispatchWithoutEnable := by
  intro s h
  rw [handleInterrupts_of_idle h, wake_of_pending]
  rfl

/-- Settles O54: the CPU is awake after either answer, and without bit 0 the answer is the wake and 0. -/
theorem anyPendingBitWakes : Obligations.AnyPendingBitWakes := by
  intro s hpending
  refine ⟨handleInterrupts_halted_of_pending hpending, fun hbit => ?_⟩
  rw [handleInterrupts_of_no_vblank hbit, wake_of_ne hpending]
  rfl

end

/-! ### Memory after a dispatch -/

/-- IF is the I/O byte at 0xFF0F, and the controller's own write of it is a write of the CPU there (R36, R62). -/
theorem memRead_setIfReg (s : State) (v : Byte) (a : Word) :
    (s.setIfReg v).memRead a = if a = 0xFF0F then v else s.memRead a := by
  obtain ⟨stores, -⟩ := writesFollowAddressMap s 0xFF0F v
  exact (stores a).trans (if_congr (and_iff_left rfl) rfl rfl)

/-- A dispatch clears IF bit 0 and then pushes PC, which may land on IF itself (R407). -/
theorem memRead_dispatchVBlank (s : State) (a : Word) :
    s.dispatchVBlank.memRead a =
      if a = s.sp - 2 ∧ storable (s.sp - 2) = true then loByte s.pc
      else if a = s.sp - 1 ∧ storable (s.sp - 1) = true then hiByte s.pc
      else if a = 0xFF0F then s.memRead 0xFF0F &&& 0xFE
      else s.memRead a := by
  have hclear : (s.setIfReg (s.ifReg &&& 0xFE)).memRead a =
      if a = 0xFF0F then s.memRead 0xFF0F &&& 0xFE else s.memRead a := memRead_setIfReg s _ a
  rw [← hclear]
  exact storesPushed_dispatchVBlank s a

/-- Settles O53: the controller's answer is the dispatch of the woken CPU with 20 returned. -/
theorem vBlankDispatch : Obligations.VBlankDispatch := by
  intro s hime hbit
  have hrest : KeepsRest s { s.handleInterrupts with extra := s.extra } :=
    ⟨handleInterrupts_fault s, handleInterrupts_ly s, handleInterrupts_acc s, handleInterrupts_back s,
      handleInterrupts_front s, handleInterrupts_params s, rfl⟩
  obtain ⟨ime, pc, sp, extra, -, -⟩ := handleInterrupts_takes_vblank hime hbit
  refine ⟨ime, pc, sp, extra, fun a => ?_, fun r _ => handleInterrupts_reg s r, handleInterrupts_f s, ?_, hrest,
    handleInterrupts_cycles s⟩
  · rw [handleInterrupts_of_vblank hime hbit]
    exact memRead_dispatchVBlank (s.setHalted false) a
  · rw [handleInterrupts_of_vblank hime hbit]
    rfl

end Sys2Proof.Machine
end

section
/-! Reset (R440): the image as memory, the load of RAM as writes of the CPU, and the state they leave. -/

namespace Sys2Proof.Machine

/-! ### The image -/

/-- The image lists addresses from its start to its end only. -/
theorem imageFrom_bounds {bytes : List Byte} {start : Nat} {cell : Host.Cell} (h : cell ∈ imageFrom start bytes) :
    start ≤ cell.1 ∧ cell.1 < start + bytes.length := by
  induction bytes generalizing start with
  | nil => cases h
  | cons v rest ih =>
    rw [List.length_cons]
    rcases Memory.mem_cons h with rfl | hrest
    · exact ⟨le_rfl, by omega⟩
    · have := ih hrest
      omega

theorem imageFrom_wf {bytes : List Byte} {start : Nat} (h : start + bytes.length ≤ 65536) :
    (imageFrom start bytes).wf = true := by
  induction bytes generalizing start with
  | nil => rfl
  | cons v rest ih =>
    rw [List.length_cons] at h
    exact Memory.wf_cons (by omega) (ih (by omega)) fun cell hcell => (imageFrom_bounds hcell).1

/-- The image reads back its bytes, the one at its start first. -/
theorem imageFrom_read (bytes : List Byte) (start k : Nat) :
    (imageFrom start bytes).read (start + k) = bytes.getD k 0 := by
  induction bytes generalizing start k with
  | nil => rfl
  | cons v rest ih =>
    have hnot : ∀ cell ∈ imageFrom (start + 1) rest, cell.1 ≠ start := fun cell hcell =>
      Nat.ne_of_gt (imageFrom_bounds hcell).1
    rw [imageFrom, Memory.read_cons _ _ _ _ hnot]
    cases k with
    | zero => exact if_pos rfl
    | succ k =>
      rw [if_neg (by omega), ← Nat.add_assoc, Nat.add_right_comm, ih]
      rfl

/-- Above the image nothing is listed. -/
theorem imageFrom_read_above {bytes : List Byte} {start a : Nat} (h : start + bytes.length ≤ a) :
    (imageFrom start bytes).read a = unlistedByte :=
  Memory.read_of_absent fun _ hcell => Nat.ne_of_lt ((imageFrom_bounds hcell).2.trans_le h)

/-! ### The load of RAM -/

/-- Each byte of RAM is loaded by a write of the CPU, or ignored (R62). -/
theorem loadRam_writes (m ram : Memory) : CpuWrites m (loadRam m ram) := by
  induction ram generalizing m with
  | nil => exact .refl m
  | cons cell rest ih =>
    obtain ⟨k, v⟩ := cell
    rw [loadRam]
    split
    · next hstores =>
      obtain ⟨hk, hwritable⟩ := Bool.and_eq_true_iff.1 hstores
      have hfits : (BitVec.ofNat 16 k).toNat = k := Nat.mod_eq_of_lt (of_decide_eq_true hk)
      have hwrite := CpuWrites.write (BitVec.ofNat 16 k) v (.refl m) hwritable
      rw [hfits] at hwrite
      exact hwrite.trans (ih _)
    · exact ih m

/-- A byte that RAM does not list is left as it was. -/
theorem loadRam_read_of_absent {m ram : Memory} {a : Nat} (h : ∀ cell ∈ ram, cell.1 ≠ a) :
    (loadRam m ram).read a = m.read a := by
  induction ram generalizing m with
  | nil => rfl
  | cons cell rest ih =>
    obtain ⟨k, v⟩ := cell
    rw [loadRam, ih fun cell hcell => h cell (List.mem_cons_of_mem _ hcell)]
    split
    · rw [Memory.read_write, if_neg (h (k, v) List.mem_cons_self).symm]
    · rfl

/-- A storable byte that read as unlisted reads as RAM gives it. -/
theorem loadRam_read {m ram : Memory} (hram : ram.wf = true) {addr : Word} (hstores : storable addr = true)
    (hm : m.read addr.toNat = unlistedByte) : (loadRam m ram).read addr.toNat = ram.read addr.toNat := by
  induction ram generalizing m with
  | nil => exact hm
  | cons cell rest ih =>
    obtain ⟨k, v⟩ := cell
    obtain ⟨-, -, habove, hrest⟩ := (Memory.wf_pair k v rest).1 hram
    rw [loadRam, Memory.read_pair]
    by_cases hk : k = addr.toNat
    · subst hk
      have hloads : (decide (addr.toNat < 65536) && (regionOf (BitVec.ofNat 16 addr.toNat)).writable) = true := by
        simp [addr.isLt, ← storable_eq, hstores]
      rw [if_pos rfl, if_pos hloads, loadRam_read_of_absent fun cell hcell => Nat.ne_of_gt (habove cell hcell),
        Memory.read_write, if_pos rfl]
    · rw [if_neg hk]
      refine ih hrest ?_
      split
      · rw [Memory.read_write, if_neg (Ne.symm hk), hm]
      · exact hm

/-! ### The state after reset -/

/-- The state that Reset leaves for an image of the right length (R440). -/
def resetState (params : Params) (rom : List Byte) (v : ResetValues) : State :=
  { State.reset with
    a := v.a, f := v.f &&& 0xF0, b := v.b, c := v.c, d := v.d, e := v.e, h := v.h, l := v.l, sp := v.sp, pc := v.pc
    mem := loadRam (imageFrom 0 rom) v.ram, params := params }

theorem resetOf_eq (params : Params) (rom : List Byte) (v : ResetValues) :
    State.resetOf params rom v = if rom.length = 0x8000 then some (resetState params rom v) else none := rfl

theorem resetOf_eq_some_iff {params : Params} {rom : List Byte} {v : ResetValues} {s : State} :
    State.resetOf params rom v = some s ↔ rom.length = 0x8000 ∧ resetState params rom v = s := by
  rw [resetOf_eq, Option.ite_none_right_eq_some, Option.some_inj]

/-- RAM never reaches ROM, which holds the image (R31, R63). -/
theorem resetState_memRead_rom (params : Params) (rom : List Byte) (v : ResetValues) {addr : Word}
    (haddr : addr.toNat ≤ 0x7FFF) :
    (resetState params rom v).memRead addr = rom.getD addr.toNat 0 := by
  have hnot : (regionOf addr).writable = false := by rw [regionOf_rom haddr]; rfl
  have himage := imageFrom_read rom 0 addr.toNat
  rw [Nat.zero_add] at himage
  rw [memRead_rom _ haddr, ← himage]
  exact (loadRam_writes _ v.ram).read hnot

section
variable {rom : List Byte} (hrom : rom.length = 0x8000)
include hrom

/-- The image fills ROM and no more (R31). -/
theorem image_stored : ∀ cell ∈ imageFrom 0 rom, (regionOf (BitVec.ofNat 16 cell.1)).stored = true := by
  intro cell hcell
  obtain ⟨-, hlt⟩ := imageFrom_bounds hcell
  have hregion : regionOf (BitVec.ofNat 16 cell.1) = .rom := regionOf_rom (by rw [BitVec.toNat_ofNat]; omega)
  rw [hregion]
  rfl

theorem inv_resetState (params : Params) (v : ResetValues) : (resetState params rom v).Inv where
  flags := mask_low v.f
  memory := (loadRam_writes _ v.ram).wf (imageFrom_wf (by omega))
  stored := (loadRam_writes _ v.ram).stored (image_stored hrom)
  line := Nat.zero_le 153
  acc := Nat.zero_lt_succ 455
  extra := .inl rfl

/-- The image ends before the first storable address, so RAM reads as it was given. -/
theorem resetState_memRead_ram (params : Params) {v : ResetValues} (hram : v.ram.wf = true) {addr : Word}
    (hstores : storable addr = true) : (resetState params rom v).memRead addr = v.ram.read addr.toNat := by
  have hregion : (regionOf addr).writable = true := storable_eq addr ▸ hstores
  have habove : 0 + rom.length ≤ addr.toNat := by
    by_contra hbelow
    rw [regionOf_rom (by omega)] at hregion
    cases hregion
  rw [memRead_of_stored _ (Region.stored_of_writable hregion)]
  exact loadRam_read hram hstores (imageFrom_read_above habove)

end

theorem blank_get_get (row : Fin 144) (x : Fin 160) : (FrameBuffer.blank.get row).get x = 0 := by
  simp [FrameBuffer.blank, Vector.get_eq_getElem]

/-- The model's own reset state, whose memory lists nothing. -/
theorem inv_reset : State.reset.Inv where
  flags := rfl
  memory := rfl
  stored := fun _ hcell => nomatch hcell
  line := Nat.zero_le 153
  acc := Nat.zero_lt_succ 455
  extra := .inl rfl

/-- Settles O58: the memory of a reset is the image, written by the CPU's own policy, so it keeps its form. -/
theorem resetMeetsInvariant : Obligations.ResetMeetsInvariant := by
  refine ⟨inv_reset, fun params rom v s h => ?_⟩
  obtain ⟨hrom, rfl⟩ := resetOf_eq_some_iff.1 h
  exact inv_resetState hrom params v

/-- Settles O59: the fields are those of `resetState`, ROM reads the image and RAM what it was given. -/
theorem resetSetsEveryItem : Obligations.ResetSetsEveryItem := by
  refine fun params rom v => ⟨fun hrom => if_neg hrom, fun hrom hram => ?_⟩
  exact ⟨resetState params rom v, resetOf_eq_some_iff.2 ⟨hrom, rfl⟩, rfl, rfl, rfl, rfl, rfl, rfl, rfl, rfl, rfl, rfl,
    rfl, rfl, rfl, rfl, rfl, fun row x => ⟨blank_get_get row x, blank_get_get row x⟩,
    fun _ => resetState_memRead_rom params rom v, fun _ => resetState_memRead_ram hrom params hram, rfl⟩

end Sys2Proof.Machine
end
